-- ==== Sys2Proof/Word.lean ====
section
/-! DEFINITION. Word.lean: the word types of the block (spec 00_scope.md R9: `u8`, `u16`; 42_tile_cache.md: the 2-bit
colour index). Bit 0 is the least significant bit of every one of them. -/

namespace Sys2Proof

/-- `u8` of R9: every access of every interface but `FrameRead` moves one byte (R64). -/
abbrev Byte := BitVec 8

/-- `u16` of R9: the address operand of the VRAM port. -/
abbrev Addr := BitVec 16

/-- A decoded colour index, 0 to 3 (R201). -/
abbrev ColourIndex := BitVec 2

end Sys2Proof
end

