-- ==== Sys2Proof/Syntax.lean ====
section
/-! DEFINITION. Syntax.lean: the instructions of the block, one constructor per row of spec/opcode_table.json.

The block decodes no instruction stream: its instructions are the host's transactions (30_encoding.md). A constructor's
operands are those of its format (R90) that its row leaves free: a port `p` that the row names is no operand. `f` is the
interrupt-flag byte `IF` the host passes to `Step`, `n` its cycle count. -/

namespace Sys2Proof

/-- One constructor per row of spec/opcode_table.json, in the table's order. -/
inductive Instr where
  /-- RD_LCDC: format PORT_R, port 0x40 (R131). -/
  | rdLcdc
  /-- WR_LCDC: format PORT_W, port 0x40 (R132). -/
  | wrLcdc (d : Byte)
  /-- RD_STAT: format PORT_R, port 0x41 (R133). -/
  | rdStat
  /-- WR_STAT: format PORT_W, port 0x41 (R134). -/
  | wrStat (d : Byte)
  /-- RD_SCY: format PORT_R, port 0x42 (R135). -/
  | rdScy
  /-- WR_SCY: format PORT_W, port 0x42 (R136). -/
  | wrScy (d : Byte)
  /-- RD_SCX: format PORT_R, port 0x43 (R137). -/
  | rdScx
  /-- WR_SCX: format PORT_W, port 0x43 (R138). -/
  | wrScx (d : Byte)
  /-- RD_LY: format PORT_R, port 0x44 (R139). -/
  | rdLy
  /-- WR_LY: format PORT_W, port 0x44 (R140). -/
  | wrLy (d : Byte)
  /-- RD_LYC: format PORT_R, port 0x45 (R141). -/
  | rdLyc
  /-- WR_LYC: format PORT_W, port 0x45 (R142). -/
  | wrLyc (d : Byte)
  /-- RD_BGP: format PORT_R, port 0x47 (R143). -/
  | rdBgp
  /-- WR_BGP: format PORT_W, port 0x47 (R144). -/
  | wrBgp (d : Byte)
  /-- RD_OBP0: format PORT_R, port 0x48 (R145). -/
  | rdObp0
  /-- WR_OBP0: format PORT_W, port 0x48 (R146). -/
  | wrObp0 (d : Byte)
  /-- RD_OBP1: format PORT_R, port 0x49 (R147). -/
  | rdObp1
  /-- WR_OBP1: format PORT_W, port 0x49 (R148). -/
  | wrObp1 (d : Byte)
  /-- RD_WY: format PORT_R, port 0x4A (R149). -/
  | rdWy
  /-- WR_WY: format PORT_W, port 0x4A (R150). -/
  | wrWy (d : Byte)
  /-- RD_WX: format PORT_R, port 0x4B (R151). -/
  | rdWx
  /-- WR_WX: format PORT_W, port 0x4B (R152). -/
  | wrWx (d : Byte)
  /-- RD_VBK: format PORT_R, port 0x4F (R153). -/
  | rdVbk
  /-- WR_VBK: format PORT_W, port 0x4F (R154). -/
  | wrVbk (d : Byte)
  /-- RD_UNMAPPED_00_3F: format PORT_R, ports 0x00 to 0x3F (R155). -/
  | rdUnmapped00To3F (p : Byte)
  /-- WR_UNMAPPED_00_3F: format PORT_W, ports 0x00 to 0x3F (R156). -/
  | wrUnmapped00To3F (p : Byte) (d : Byte)
  /-- RD_UNMAPPED_46: format PORT_R, port 0x46 (R155). -/
  | rdUnmapped46
  /-- WR_UNMAPPED_46: format PORT_W, port 0x46 (R156). -/
  | wrUnmapped46 (d : Byte)
  /-- RD_UNMAPPED_4C: format PORT_R, port 0x4C (R155). -/
  | rdUnmapped4C
  /-- WR_UNMAPPED_4C: format PORT_W, port 0x4C (R156). -/
  | wrUnmapped4C (d : Byte)
  /-- RD_UNMAPPED_4D: format PORT_R, port 0x4D (R155). -/
  | rdUnmapped4D
  /-- WR_UNMAPPED_4D: format PORT_W, port 0x4D (R156). -/
  | wrUnmapped4D (d : Byte)
  /-- RD_UNMAPPED_4E: format PORT_R, port 0x4E (R155). -/
  | rdUnmapped4E
  /-- WR_UNMAPPED_4E: format PORT_W, port 0x4E (R156). -/
  | wrUnmapped4E (d : Byte)
  /-- RD_UNMAPPED_50_5F: format PORT_R, ports 0x50 to 0x5F (R155). -/
  | rdUnmapped50To5F (p : Byte)
  /-- WR_UNMAPPED_50_5F: format PORT_W, ports 0x50 to 0x5F (R156). -/
  | wrUnmapped50To5F (p : Byte) (d : Byte)
  /-- RD_UNMAPPED_60_7F: format PORT_R, ports 0x60 to 0x7F (R155). -/
  | rdUnmapped60To7F (p : Byte)
  /-- WR_UNMAPPED_60_7F: format PORT_W, ports 0x60 to 0x7F (R156). -/
  | wrUnmapped60To7F (p : Byte) (d : Byte)
  /-- RD_UNMAPPED_80_FF: format PORT_R, ports 0x80 to 0xFF (R155). -/
  | rdUnmapped80ToFF (p : Byte)
  /-- WR_UNMAPPED_80_FF: format PORT_W, ports 0x80 to 0xFF (R156). -/
  | wrUnmapped80ToFF (p : Byte) (d : Byte)
  /-- VRAM_RD: format VRAM_R, addresss 0x8000 to 0x9FFF (R270). -/
  | vramRd (a : Addr)
  /-- VRAM_WR: format VRAM_W, addresss 0x8000 to 0x9FFF (R271). -/
  | vramWr (a : Addr) (d : Byte)
  /-- VRAM_RD_OUT_0000_7FFF: format VRAM_R, addresss 0x0000 to 0x7FFF (R272). -/
  | vramRdOut0000To7FFF (a : Addr)
  /-- VRAM_WR_OUT_0000_7FFF: format VRAM_W, addresss 0x0000 to 0x7FFF (R273). -/
  | vramWrOut0000To7FFF (a : Addr) (d : Byte)
  /-- VRAM_RD_OUT_A000_BFFF: format VRAM_R, addresss 0xA000 to 0xBFFF (R272). -/
  | vramRdOutA000ToBFFF (a : Addr)
  /-- VRAM_WR_OUT_A000_BFFF: format VRAM_W, addresss 0xA000 to 0xBFFF (R273). -/
  | vramWrOutA000ToBFFF (a : Addr) (d : Byte)
  /-- VRAM_RD_OUT_C000_FFFF: format VRAM_R, addresss 0xC000 to 0xFFFF (R272). -/
  | vramRdOutC000ToFFFF (a : Addr)
  /-- VRAM_WR_OUT_C000_FFFF: format VRAM_W, addresss 0xC000 to 0xFFFF (R273). -/
  | vramWrOutC000ToFFFF (a : Addr) (d : Byte)
  /-- OAM_RD_00_7F: format OAM_R, offsets 0x00 to 0x7F (R274). -/
  | oamRd00To7F (o : Byte)
  /-- OAM_WR_00_7F: format OAM_W, offsets 0x00 to 0x7F (R275). -/
  | oamWr00To7F (o : Byte) (d : Byte)
  /-- OAM_RD_80_9F: format OAM_R, offsets 0x80 to 0x9F (R274). -/
  | oamRd80To9F (o : Byte)
  /-- OAM_WR_80_9F: format OAM_W, offsets 0x80 to 0x9F (R275). -/
  | oamWr80To9F (o : Byte) (d : Byte)
  /-- OAM_RD_OUT_A0_BF: format OAM_R, offsets 0xA0 to 0xBF (R276). -/
  | oamRdOutA0ToBF (o : Byte)
  /-- OAM_WR_OUT_A0_BF: format OAM_W, offsets 0xA0 to 0xBF (R277). -/
  | oamWrOutA0ToBF (o : Byte) (d : Byte)
  /-- OAM_RD_OUT_C0_FF: format OAM_R, offsets 0xC0 to 0xFF (R276). -/
  | oamRdOutC0ToFF (o : Byte)
  /-- OAM_WR_OUT_C0_FF: format OAM_W, offsets 0xC0 to 0xFF (R277). -/
  | oamWrOutC0ToFF (o : Byte) (d : Byte)
  /-- STEP: advance time by `n` cycles, `n <= 456` (R171). -/
  | step (n : Nat) (f : Byte)
  /-- STEP_REFUSED: a `Step` with `n > 456` (R170). -/
  | stepRefused (n : Nat) (f : Byte)
  /-- FRAME_RD: format FB_R, read the whole frame buffer (R278). -/
  | frameRd
deriving DecidableEq, Repr

end Sys2Proof
end

