-- ==== Sys2Proof/WellFormed.lean ====
section
/-! DEFINITION. WellFormed.lean: which terms of `Instr` stand for a transaction the table's rows select.

A row of the opcode table whose mask leaves operand bits free covers a range of ports, addresses or offsets; the operand
of its constructor must lie in it (the ranges of 30_encoding.md R107, 40_register_bank.md R155, 45_memory_ports.md R270 to
R277). STEP and STEP_REFUSED divide the cycle counts at 456 (41_mode_state_machine.md R170). Every other operand value is
legal (60_exceptions.md R305). -/

namespace Sys2Proof

/-- `lo <= x <= hi` for an operand read as an unsigned number (R91). -/
def inRange (lo hi x : Nat) : Bool := decide (lo ≤ x) && decide (x ≤ hi)

/-- The operands of `i` are ones its row of the opcode table covers. -/
def Instr.wf (i : Instr) : Bool :=
  match i with
  | .rdLcdc => true
  | .wrLcdc _ => true
  | .rdStat => true
  | .wrStat _ => true
  | .rdScy => true
  | .wrScy _ => true
  | .rdScx => true
  | .wrScx _ => true
  | .rdLy => true
  | .wrLy _ => true
  | .rdLyc => true
  | .wrLyc _ => true
  | .rdBgp => true
  | .wrBgp _ => true
  | .rdObp0 => true
  | .wrObp0 _ => true
  | .rdObp1 => true
  | .wrObp1 _ => true
  | .rdWy => true
  | .wrWy _ => true
  | .rdWx => true
  | .wrWx _ => true
  | .rdVbk => true
  | .wrVbk _ => true
  | .rdUnmapped00To3F p => inRange 0x00 0x3F p.toNat
  | .wrUnmapped00To3F p _ => inRange 0x00 0x3F p.toNat
  | .rdUnmapped46 => true
  | .wrUnmapped46 _ => true
  | .rdUnmapped4C => true
  | .wrUnmapped4C _ => true
  | .rdUnmapped4D => true
  | .wrUnmapped4D _ => true
  | .rdUnmapped4E => true
  | .wrUnmapped4E _ => true
  | .rdUnmapped50To5F p => inRange 0x50 0x5F p.toNat
  | .wrUnmapped50To5F p _ => inRange 0x50 0x5F p.toNat
  | .rdUnmapped60To7F p => inRange 0x60 0x7F p.toNat
  | .wrUnmapped60To7F p _ => inRange 0x60 0x7F p.toNat
  | .rdUnmapped80ToFF p => inRange 0x80 0xFF p.toNat
  | .wrUnmapped80ToFF p _ => inRange 0x80 0xFF p.toNat
  | .vramRd a => inRange 0x8000 0x9FFF a.toNat
  | .vramWr a _ => inRange 0x8000 0x9FFF a.toNat
  | .vramRdOut0000To7FFF a => inRange 0x0000 0x7FFF a.toNat
  | .vramWrOut0000To7FFF a _ => inRange 0x0000 0x7FFF a.toNat
  | .vramRdOutA000ToBFFF a => inRange 0xA000 0xBFFF a.toNat
  | .vramWrOutA000ToBFFF a _ => inRange 0xA000 0xBFFF a.toNat
  | .vramRdOutC000ToFFFF a => inRange 0xC000 0xFFFF a.toNat
  | .vramWrOutC000ToFFFF a _ => inRange 0xC000 0xFFFF a.toNat
  | .oamRd00To7F o => inRange 0x00 0x7F o.toNat
  | .oamWr00To7F o _ => inRange 0x00 0x7F o.toNat
  | .oamRd80To9F o => inRange 0x80 0x9F o.toNat
  | .oamWr80To9F o _ => inRange 0x80 0x9F o.toNat
  | .oamRdOutA0ToBF o => inRange 0xA0 0xBF o.toNat
  | .oamWrOutA0ToBF o _ => inRange 0xA0 0xBF o.toNat
  | .oamRdOutC0ToFF o => inRange 0xC0 0xFF o.toNat
  | .oamWrOutC0ToFF o _ => inRange 0xC0 0xFF o.toNat
  | .step n _ => decide (n ≤ 456)
  | .stepRefused n _ => decide (456 < n)
  | .frameRd => true

end Sys2Proof
end

