-- ==== Sys2Proof/Decode.lean ====
section
/-! DEFINITION. Decode.lean: from the host's transactions to instructions, and back (30_encoding.md).

"Each transaction is identified by the interface it arrives on, not by bits of a word" (R90): a transaction is an
interface and the operand fields R90 gives it. `decode` selects the operation by the port map (R92) and the address and
offset ranges (R91, R107); it is total, because every operand value is legal (R305). `encode` is its inverse on
well-formed instructions.

The spec gives a transaction no byte layout. The second half of this file fixes one (log entry 8), reads any bytes of any
interface and rejects by name the ones that are no transaction; the machine itself never reads bytes. -/

namespace Sys2Proof

/-! ### Transactions -/

/-- The eight formats of R90; a transaction's kind is the interface it arrives on (R109). -/
inductive Interface where
  | portR | portW | vramR | vramW | oamR | oamW | step | fbR
deriving DecidableEq, Repr

/-- A transaction: the format it arrives on with the operand fields R90 gives that format. -/
inductive Transaction where
  /-- PORT_R: `RegRead(p)`. -/
  | portR (p : Byte)
  /-- PORT_W: `RegWrite(p, d)`. -/
  | portW (p : Byte) (d : Byte)
  /-- VRAM_R: `VramRead(a)`. -/
  | vramR (a : Addr)
  /-- VRAM_W: `VramWrite(a, d)`. -/
  | vramW (a : Addr) (d : Byte)
  /-- OAM_R: `OamRead(o)`. -/
  | oamR (o : Byte)
  /-- OAM_W: `OamWrite(o, d)`. -/
  | oamW (o : Byte) (d : Byte)
  /-- STEP: `Step(n, IF)`, `n` any natural number. -/
  | step (n : Nat) (f : Byte)
  /-- FB_R: `FrameRead()`. -/
  | fbR
deriving DecidableEq, Repr

/-- The interface a transaction arrives on. -/
def Transaction.interface (t : Transaction) : Interface :=
  match t with
  | .portR _ => .portR
  | .portW _ _ => .portW
  | .vramR _ => .vramR
  | .vramW _ _ => .vramW
  | .oamR _ => .oamR
  | .oamW _ _ => .oamW
  | .step _ _ => .step
  | .fbR => .fbR

/-! ### The operation map (R91, R92, R107) -/

/-- What a port offset selects: the rows of the port map R92, and the unmapped ranges of R107 as the opcode table
divides them. -/
inductive Port where
  | lcdc | stat | scy | scx | ly | lyc | bgp | obp0 | obp1 | wy | wx | vbk
  | unmapped00To3F | unmapped46 | unmapped4C | unmapped4D | unmapped4E
  | unmapped50To5F | unmapped60To7F | unmapped80ToFF
deriving DecidableEq, Repr

/-- R92: the port map, "by the exact value of `p`"; every other value is unmapped (R107). -/
def portOf (p : Byte) : Port :=
  if p.toNat ≤ 0x3F then .unmapped00To3F
  else if p = 0x40 then .lcdc
  else if p = 0x41 then .stat
  else if p = 0x42 then .scy
  else if p = 0x43 then .scx
  else if p = 0x44 then .ly
  else if p = 0x45 then .lyc
  else if p = 0x46 then .unmapped46
  else if p = 0x47 then .bgp
  else if p = 0x48 then .obp0
  else if p = 0x49 then .obp1
  else if p = 0x4A then .wy
  else if p = 0x4B then .wx
  else if p = 0x4C then .unmapped4C
  else if p = 0x4D then .unmapped4D
  else if p = 0x4E then .unmapped4E
  else if p = 0x4F then .vbk
  else if p.toNat ≤ 0x5F then .unmapped50To5F
  else if p.toNat ≤ 0x7F then .unmapped60To7F
  else .unmapped80ToFF

/-- Where a 16-bit address lies: in the VRAM window 0x8000 to 0x9FFF (R91), or outside it in one of the three ranges the
opcode table names. -/
inductive VramRegion where
  | window | out0000To7FFF | outA000ToBFFF | outC000ToFFFF
deriving DecidableEq, Repr

/-- R91, R107: the range a VRAM-port address lies in. -/
def vramRegionOf (a : Addr) : VramRegion :=
  if a.toNat ≤ 0x7FFF then .out0000To7FFF
  else if a.toNat ≤ 0x9FFF then .window
  else if a.toNat ≤ 0xBFFF then .outA000ToBFFF
  else .outC000ToFFFF

/-- Where an OAM offset lies: in the sprite table (`o <= 159`, R91), which the opcode table splits in two, or past it. -/
inductive OamRegion where
  | table00To7F | table80To9F | outA0ToBF | outC0ToFF
deriving DecidableEq, Repr

/-- R91, R107: the range an OAM offset lies in. -/
def oamRegionOf (o : Byte) : OamRegion :=
  if o.toNat ≤ 0x7F then .table00To7F
  else if o.toNat ≤ 0x9F then .table80To9F
  else if o.toNat ≤ 0xBF then .outA0ToBF
  else .outC0ToFF

/-- PORT_R (R92, R155). -/
def decodePortRead (p : Byte) : Instr :=
  match portOf p with
  | .lcdc => .rdLcdc
  | .stat => .rdStat
  | .scy => .rdScy
  | .scx => .rdScx
  | .ly => .rdLy
  | .lyc => .rdLyc
  | .bgp => .rdBgp
  | .obp0 => .rdObp0
  | .obp1 => .rdObp1
  | .wy => .rdWy
  | .wx => .rdWx
  | .vbk => .rdVbk
  | .unmapped00To3F => .rdUnmapped00To3F p
  | .unmapped46 => .rdUnmapped46
  | .unmapped4C => .rdUnmapped4C
  | .unmapped4D => .rdUnmapped4D
  | .unmapped4E => .rdUnmapped4E
  | .unmapped50To5F => .rdUnmapped50To5F p
  | .unmapped60To7F => .rdUnmapped60To7F p
  | .unmapped80ToFF => .rdUnmapped80ToFF p

/-- PORT_W (R92, R156). -/
def decodePortWrite (p d : Byte) : Instr :=
  match portOf p with
  | .lcdc => .wrLcdc d
  | .stat => .wrStat d
  | .scy => .wrScy d
  | .scx => .wrScx d
  | .ly => .wrLy d
  | .lyc => .wrLyc d
  | .bgp => .wrBgp d
  | .obp0 => .wrObp0 d
  | .obp1 => .wrObp1 d
  | .wy => .wrWy d
  | .wx => .wrWx d
  | .vbk => .wrVbk d
  | .unmapped00To3F => .wrUnmapped00To3F p d
  | .unmapped46 => .wrUnmapped46 d
  | .unmapped4C => .wrUnmapped4C d
  | .unmapped4D => .wrUnmapped4D d
  | .unmapped4E => .wrUnmapped4E d
  | .unmapped50To5F => .wrUnmapped50To5F p d
  | .unmapped60To7F => .wrUnmapped60To7F p d
  | .unmapped80ToFF => .wrUnmapped80ToFF p d

/-- VRAM_R (R270, R272). -/
def decodeVramRead (a : Addr) : Instr :=
  match vramRegionOf a with
  | .window => .vramRd a
  | .out0000To7FFF => .vramRdOut0000To7FFF a
  | .outA000ToBFFF => .vramRdOutA000ToBFFF a
  | .outC000ToFFFF => .vramRdOutC000ToFFFF a

/-- VRAM_W (R271, R273). -/
def decodeVramWrite (a : Addr) (d : Byte) : Instr :=
  match vramRegionOf a with
  | .window => .vramWr a d
  | .out0000To7FFF => .vramWrOut0000To7FFF a d
  | .outA000ToBFFF => .vramWrOutA000ToBFFF a d
  | .outC000ToFFFF => .vramWrOutC000ToFFFF a d

/-- OAM_R (R274, R276). -/
def decodeOamRead (o : Byte) : Instr :=
  match oamRegionOf o with
  | .table00To7F => .oamRd00To7F o
  | .table80To9F => .oamRd80To9F o
  | .outA0ToBF => .oamRdOutA0ToBF o
  | .outC0ToFF => .oamRdOutC0ToFF o

/-- OAM_W (R275, R277). -/
def decodeOamWrite (o d : Byte) : Instr :=
  match oamRegionOf o with
  | .table00To7F => .oamWr00To7F o d
  | .table80To9F => .oamWr80To9F o d
  | .outA0ToBF => .oamWrOutA0ToBF o d
  | .outC0ToFF => .oamWrOutC0ToFF o d

/-- STEP: `n <= 456` is the normal operation (R171), `n > 456` the refused one (R170). -/
def decodeStep (n : Nat) (f : Byte) : Instr :=
  if n ≤ 456 then .step n f else .stepRefused n f

/-- The decoder: the operation a transaction selects. Total: every transaction selects one. -/
def decode (t : Transaction) : Instr :=
  match t with
  | .portR p => decodePortRead p
  | .portW p d => decodePortWrite p d
  | .vramR a => decodeVramRead a
  | .vramW a d => decodeVramWrite a d
  | .oamR o => decodeOamRead o
  | .oamW o d => decodeOamWrite o d
  | .step n f => decodeStep n f
  | .fbR => .frameRd

/-! ### The encoder -/

/-- The transaction of an instruction, from the same tables (R90, R92): a register's port is the one R92 gives it, every
other operand is carried as it is. -/
def encode (i : Instr) : Transaction :=
  match i with
  | .rdLcdc => .portR 0x40
  | .wrLcdc d => .portW 0x40 d
  | .rdStat => .portR 0x41
  | .wrStat d => .portW 0x41 d
  | .rdScy => .portR 0x42
  | .wrScy d => .portW 0x42 d
  | .rdScx => .portR 0x43
  | .wrScx d => .portW 0x43 d
  | .rdLy => .portR 0x44
  | .wrLy d => .portW 0x44 d
  | .rdLyc => .portR 0x45
  | .wrLyc d => .portW 0x45 d
  | .rdBgp => .portR 0x47
  | .wrBgp d => .portW 0x47 d
  | .rdObp0 => .portR 0x48
  | .wrObp0 d => .portW 0x48 d
  | .rdObp1 => .portR 0x49
  | .wrObp1 d => .portW 0x49 d
  | .rdWy => .portR 0x4A
  | .wrWy d => .portW 0x4A d
  | .rdWx => .portR 0x4B
  | .wrWx d => .portW 0x4B d
  | .rdVbk => .portR 0x4F
  | .wrVbk d => .portW 0x4F d
  | .rdUnmapped00To3F p => .portR p
  | .wrUnmapped00To3F p d => .portW p d
  | .rdUnmapped46 => .portR 0x46
  | .wrUnmapped46 d => .portW 0x46 d
  | .rdUnmapped4C => .portR 0x4C
  | .wrUnmapped4C d => .portW 0x4C d
  | .rdUnmapped4D => .portR 0x4D
  | .wrUnmapped4D d => .portW 0x4D d
  | .rdUnmapped4E => .portR 0x4E
  | .wrUnmapped4E d => .portW 0x4E d
  | .rdUnmapped50To5F p => .portR p
  | .wrUnmapped50To5F p d => .portW p d
  | .rdUnmapped60To7F p => .portR p
  | .wrUnmapped60To7F p d => .portW p d
  | .rdUnmapped80ToFF p => .portR p
  | .wrUnmapped80ToFF p d => .portW p d
  | .vramRd a => .vramR a
  | .vramWr a d => .vramW a d
  | .vramRdOut0000To7FFF a => .vramR a
  | .vramWrOut0000To7FFF a d => .vramW a d
  | .vramRdOutA000ToBFFF a => .vramR a
  | .vramWrOutA000ToBFFF a d => .vramW a d
  | .vramRdOutC000ToFFFF a => .vramR a
  | .vramWrOutC000ToFFFF a d => .vramW a d
  | .oamRd00To7F o => .oamR o
  | .oamWr00To7F o d => .oamW o d
  | .oamRd80To9F o => .oamR o
  | .oamWr80To9F o d => .oamW o d
  | .oamRdOutA0ToBF o => .oamR o
  | .oamWrOutA0ToBF o d => .oamW o d
  | .oamRdOutC0ToFF o => .oamR o
  | .oamWrOutC0ToFF o d => .oamW o d
  | .step n f => .step n f
  | .stepRefused n f => .step n f
  | .frameRd => .fbR

/-! ### The opcode table as data -/

/-- How a row of spec/opcode_table.json selects among the transactions of its format: by a mask and match on the operand
`p`, `a` or `o`, by the cycle count of a STEP, or always. -/
inductive Selector where
  | bits (mask value : Nat)
  | cyclesAtMost (bound : Nat)
  | cyclesOver (bound : Nat)
  | always
deriving DecidableEq, Repr

/-- A row of spec/opcode_table.json. -/
structure TableRow where
  mnemonic : String
  format : Interface
  select : Selector
deriving DecidableEq, Repr

/-- The operand the table's masks apply to: the port, the address or the offset; of a STEP, the cycle count. -/
def Transaction.key (t : Transaction) : Nat :=
  match t with
  | .portR p => p.toNat
  | .portW p _ => p.toNat
  | .vramR a => a.toNat
  | .vramW a _ => a.toNat
  | .oamR o => o.toNat
  | .oamW o _ => o.toNat
  | .step n _ => n
  | .fbR => 0

/-- The selector accepts a transaction's key. -/
def Selector.accepts (s : Selector) (key : Nat) : Bool :=
  match s with
  | .bits mask value => key &&& mask == value
  | .cyclesAtMost b => decide (key ≤ b)
  | .cyclesOver b => decide (b < key)
  | .always => true

/-- The row selects the transaction. -/
def TableRow.covers (r : TableRow) (t : Transaction) : Bool :=
  (r.format == t.interface) && r.select.accepts t.key

/-- spec/opcode_table.json, its registers' rows: each port read and written. -/
def registerRows : List TableRow :=
  [ ⟨"RD_LCDC", .portR, .bits 0xFF 0x40⟩,
    ⟨"WR_LCDC", .portW, .bits 0xFF 0x40⟩,
    ⟨"RD_STAT", .portR, .bits 0xFF 0x41⟩,
    ⟨"WR_STAT", .portW, .bits 0xFF 0x41⟩,
    ⟨"RD_SCY", .portR, .bits 0xFF 0x42⟩,
    ⟨"WR_SCY", .portW, .bits 0xFF 0x42⟩,
    ⟨"RD_SCX", .portR, .bits 0xFF 0x43⟩,
    ⟨"WR_SCX", .portW, .bits 0xFF 0x43⟩,
    ⟨"RD_LY", .portR, .bits 0xFF 0x44⟩,
    ⟨"WR_LY", .portW, .bits 0xFF 0x44⟩,
    ⟨"RD_LYC", .portR, .bits 0xFF 0x45⟩,
    ⟨"WR_LYC", .portW, .bits 0xFF 0x45⟩,
    ⟨"RD_BGP", .portR, .bits 0xFF 0x47⟩,
    ⟨"WR_BGP", .portW, .bits 0xFF 0x47⟩,
    ⟨"RD_OBP0", .portR, .bits 0xFF 0x48⟩,
    ⟨"WR_OBP0", .portW, .bits 0xFF 0x48⟩,
    ⟨"RD_OBP1", .portR, .bits 0xFF 0x49⟩,
    ⟨"WR_OBP1", .portW, .bits 0xFF 0x49⟩,
    ⟨"RD_WY", .portR, .bits 0xFF 0x4A⟩,
    ⟨"WR_WY", .portW, .bits 0xFF 0x4A⟩,
    ⟨"RD_WX", .portR, .bits 0xFF 0x4B⟩,
    ⟨"WR_WX", .portW, .bits 0xFF 0x4B⟩,
    ⟨"RD_VBK", .portR, .bits 0xFF 0x4F⟩,
    ⟨"WR_VBK", .portW, .bits 0xFF 0x4F⟩ ]

/-- spec/opcode_table.json, its rows of unmapped ports (R107). -/
def unmappedRows : List TableRow :=
  [ ⟨"RD_UNMAPPED_00_3F", .portR, .bits 0xC0 0x00⟩,
    ⟨"WR_UNMAPPED_00_3F", .portW, .bits 0xC0 0x00⟩,
    ⟨"RD_UNMAPPED_46", .portR, .bits 0xFF 0x46⟩,
    ⟨"WR_UNMAPPED_46", .portW, .bits 0xFF 0x46⟩,
    ⟨"RD_UNMAPPED_4C", .portR, .bits 0xFF 0x4C⟩,
    ⟨"WR_UNMAPPED_4C", .portW, .bits 0xFF 0x4C⟩,
    ⟨"RD_UNMAPPED_4D", .portR, .bits 0xFF 0x4D⟩,
    ⟨"WR_UNMAPPED_4D", .portW, .bits 0xFF 0x4D⟩,
    ⟨"RD_UNMAPPED_4E", .portR, .bits 0xFF 0x4E⟩,
    ⟨"WR_UNMAPPED_4E", .portW, .bits 0xFF 0x4E⟩,
    ⟨"RD_UNMAPPED_50_5F", .portR, .bits 0xF0 0x50⟩,
    ⟨"WR_UNMAPPED_50_5F", .portW, .bits 0xF0 0x50⟩,
    ⟨"RD_UNMAPPED_60_7F", .portR, .bits 0xE0 0x60⟩,
    ⟨"WR_UNMAPPED_60_7F", .portW, .bits 0xE0 0x60⟩,
    ⟨"RD_UNMAPPED_80_FF", .portR, .bits 0x80 0x80⟩,
    ⟨"WR_UNMAPPED_80_FF", .portW, .bits 0x80 0x80⟩ ]

/-- spec/opcode_table.json, its rows of the VRAM, OAM, step and frame interfaces. -/
def portRows : List TableRow :=
  [ ⟨"VRAM_RD", .vramR, .bits 0xE000 0x8000⟩,
    ⟨"VRAM_WR", .vramW, .bits 0xE000 0x8000⟩,
    ⟨"VRAM_RD_OUT_0000_7FFF", .vramR, .bits 0x8000 0x0000⟩,
    ⟨"VRAM_WR_OUT_0000_7FFF", .vramW, .bits 0x8000 0x0000⟩,
    ⟨"VRAM_RD_OUT_A000_BFFF", .vramR, .bits 0xE000 0xA000⟩,
    ⟨"VRAM_WR_OUT_A000_BFFF", .vramW, .bits 0xE000 0xA000⟩,
    ⟨"VRAM_RD_OUT_C000_FFFF", .vramR, .bits 0xC000 0xC000⟩,
    ⟨"VRAM_WR_OUT_C000_FFFF", .vramW, .bits 0xC000 0xC000⟩,
    ⟨"OAM_RD_00_7F", .oamR, .bits 0x80 0x00⟩,
    ⟨"OAM_WR_00_7F", .oamW, .bits 0x80 0x00⟩,
    ⟨"OAM_RD_80_9F", .oamR, .bits 0xE0 0x80⟩,
    ⟨"OAM_WR_80_9F", .oamW, .bits 0xE0 0x80⟩,
    ⟨"OAM_RD_OUT_A0_BF", .oamR, .bits 0xE0 0xA0⟩,
    ⟨"OAM_WR_OUT_A0_BF", .oamW, .bits 0xE0 0xA0⟩,
    ⟨"OAM_RD_OUT_C0_FF", .oamR, .bits 0xC0 0xC0⟩,
    ⟨"OAM_WR_OUT_C0_FF", .oamW, .bits 0xC0 0xC0⟩,
    ⟨"STEP", .step, .cyclesAtMost 456⟩,
    ⟨"STEP_REFUSED", .step, .cyclesOver 456⟩,
    ⟨"FRAME_RD", .fbR, .always⟩ ]

/-- spec/opcode_table.json, all 59 rows in its order. -/
def opcodeTable : List TableRow := registerRows ++ unmappedRows ++ portRows

/-- The mnemonic of the row a constructor stands for. -/
def Instr.mnemonic (i : Instr) : String :=
  match i with
  | .rdLcdc => "RD_LCDC"
  | .wrLcdc _ => "WR_LCDC"
  | .rdStat => "RD_STAT"
  | .wrStat _ => "WR_STAT"
  | .rdScy => "RD_SCY"
  | .wrScy _ => "WR_SCY"
  | .rdScx => "RD_SCX"
  | .wrScx _ => "WR_SCX"
  | .rdLy => "RD_LY"
  | .wrLy _ => "WR_LY"
  | .rdLyc => "RD_LYC"
  | .wrLyc _ => "WR_LYC"
  | .rdBgp => "RD_BGP"
  | .wrBgp _ => "WR_BGP"
  | .rdObp0 => "RD_OBP0"
  | .wrObp0 _ => "WR_OBP0"
  | .rdObp1 => "RD_OBP1"
  | .wrObp1 _ => "WR_OBP1"
  | .rdWy => "RD_WY"
  | .wrWy _ => "WR_WY"
  | .rdWx => "RD_WX"
  | .wrWx _ => "WR_WX"
  | .rdVbk => "RD_VBK"
  | .wrVbk _ => "WR_VBK"
  | .rdUnmapped00To3F _ => "RD_UNMAPPED_00_3F"
  | .wrUnmapped00To3F _ _ => "WR_UNMAPPED_00_3F"
  | .rdUnmapped46 => "RD_UNMAPPED_46"
  | .wrUnmapped46 _ => "WR_UNMAPPED_46"
  | .rdUnmapped4C => "RD_UNMAPPED_4C"
  | .wrUnmapped4C _ => "WR_UNMAPPED_4C"
  | .rdUnmapped4D => "RD_UNMAPPED_4D"
  | .wrUnmapped4D _ => "WR_UNMAPPED_4D"
  | .rdUnmapped4E => "RD_UNMAPPED_4E"
  | .wrUnmapped4E _ => "WR_UNMAPPED_4E"
  | .rdUnmapped50To5F _ => "RD_UNMAPPED_50_5F"
  | .wrUnmapped50To5F _ _ => "WR_UNMAPPED_50_5F"
  | .rdUnmapped60To7F _ => "RD_UNMAPPED_60_7F"
  | .wrUnmapped60To7F _ _ => "WR_UNMAPPED_60_7F"
  | .rdUnmapped80ToFF _ => "RD_UNMAPPED_80_FF"
  | .wrUnmapped80ToFF _ _ => "WR_UNMAPPED_80_FF"
  | .vramRd _ => "VRAM_RD"
  | .vramWr _ _ => "VRAM_WR"
  | .vramRdOut0000To7FFF _ => "VRAM_RD_OUT_0000_7FFF"
  | .vramWrOut0000To7FFF _ _ => "VRAM_WR_OUT_0000_7FFF"
  | .vramRdOutA000ToBFFF _ => "VRAM_RD_OUT_A000_BFFF"
  | .vramWrOutA000ToBFFF _ _ => "VRAM_WR_OUT_A000_BFFF"
  | .vramRdOutC000ToFFFF _ => "VRAM_RD_OUT_C000_FFFF"
  | .vramWrOutC000ToFFFF _ _ => "VRAM_WR_OUT_C000_FFFF"
  | .oamRd00To7F _ => "OAM_RD_00_7F"
  | .oamWr00To7F _ _ => "OAM_WR_00_7F"
  | .oamRd80To9F _ => "OAM_RD_80_9F"
  | .oamWr80To9F _ _ => "OAM_WR_80_9F"
  | .oamRdOutA0ToBF _ => "OAM_RD_OUT_A0_BF"
  | .oamWrOutA0ToBF _ _ => "OAM_WR_OUT_A0_BF"
  | .oamRdOutC0ToFF _ => "OAM_RD_OUT_C0_FF"
  | .oamWrOutC0ToFF _ _ => "OAM_WR_OUT_C0_FF"
  | .step _ _ => "STEP"
  | .stepRefused _ _ => "STEP_REFUSED"
  | .frameRd => "FRAME_RD"

/-! ### Bytes (log entry 8: the layout is the model's own) -/

/-- Why bytes given to an interface are no transaction of it. -/
inductive DecodeError where
  /-- An operand byte of the format is missing. -/
  | operandMissing
  /-- Bytes are left over after the format's operands. -/
  | bytesLeftOver
deriving DecidableEq, Repr

/-- A cycle count from its bytes, the least significant first, as many as there are. -/
def natOfBytes (bs : List Byte) : Nat :=
  match bs with
  | [] => 0
  | b :: rest => b.toNat + 256 * natOfBytes rest

/-- The bytes of a natural number, the least significant first, no byte above the last non-zero one (`fuel` bounds their
count). -/
def bytesOfNat (fuel n : Nat) : List Byte :=
  match fuel with
  | 0 => []
  | k + 1 => if n = 0 then [] else BitVec.ofNat 8 n :: bytesOfNat k (n / 256)

/-- The low byte of an address. -/
def lowByte (a : Addr) : Byte := a.extractLsb' 0 8

/-- The high byte of an address. -/
def highByte (a : Addr) : Byte := a.extractLsb' 8 8

/-- Exactly one operand byte. -/
def oneByte (bs : List Byte) : Except DecodeError Byte :=
  match bs with
  | [] => .error .operandMissing
  | [x] => .ok x
  | _ :: _ :: _ => .error .bytesLeftOver

/-- Exactly two operand bytes. -/
def twoBytes (bs : List Byte) : Except DecodeError (Byte × Byte) :=
  match bs with
  | [] => .error .operandMissing
  | [_] => .error .operandMissing
  | [x, y] => .ok (x, y)
  | _ :: _ :: _ :: _ => .error .bytesLeftOver

/-- Exactly three operand bytes. -/
def threeBytes (bs : List Byte) : Except DecodeError (Byte × Byte × Byte) :=
  match bs with
  | [] => .error .operandMissing
  | [_] => .error .operandMissing
  | [_, _] => .error .operandMissing
  | [x, y, z] => .ok (x, y, z)
  | _ :: _ :: _ :: _ :: _ => .error .bytesLeftOver

/-- The transaction some bytes are on an interface: `p`; `p, d`; `a` low byte first; `a, d`; `o`; `o, d`; `IF` and then the
bytes of `n`; nothing. -/
def readTransaction (k : Interface) (bs : List Byte) : Except DecodeError Transaction :=
  match k with
  | .portR => (oneByte bs).map .portR
  | .portW => (twoBytes bs).map fun x => .portW x.1 x.2
  | .vramR => (twoBytes bs).map fun x => .vramR (x.2 ++ x.1)
  | .vramW => (threeBytes bs).map fun x => .vramW (x.2.1 ++ x.1) x.2.2
  | .oamR => (oneByte bs).map .oamR
  | .oamW => (twoBytes bs).map fun x => .oamW x.1 x.2
  | .step =>
    match bs with
    | [] => .error .operandMissing
    | f :: ns => .ok (.step (natOfBytes ns) f)
  | .fbR =>
    match bs with
    | [] => .ok .fbR
    | _ :: _ => .error .bytesLeftOver

/-- The bytes of a transaction on its interface, in the same layout. -/
def writeTransaction (t : Transaction) : List Byte :=
  match t with
  | .portR p => [p]
  | .portW p d => [p, d]
  | .vramR a => [lowByte a, highByte a]
  | .vramW a d => [lowByte a, highByte a, d]
  | .oamR o => [o]
  | .oamW o d => [o, d]
  | .step n f => f :: bytesOfNat n n
  | .fbR => []

/-- The instruction some bytes are on an interface, or the reason they are none. -/
def decodeBytes (k : Interface) (bs : List Byte) : Except DecodeError Instr :=
  match readTransaction k bs with
  | .ok t => .ok (decode t)
  | .error e => .error e

/-- The bytes of an instruction on its interface. -/
def encodeBytes (i : Instr) : List Byte := writeTransaction (encode i)

/-! ### The opcode table's words -/

/-- The transaction a word of the opcode table stands for when nothing else is said. The table's words hold the operand
the row selects by and no interface (R90), so reads and writes of one port, and the port and OAM rows, share words: 8 bits
are taken as a PORT_R, 16 bits as a VRAM_R, none as FB_R (log entry 7). -/
def tableTransaction (nbits w : Nat) : Option Transaction :=
  let bytes : Interface → List Byte → Option Transaction := fun k bs =>
    match readTransaction k bs with
    | .ok t => some t
    | .error _ => none
  match nbits with
  | 0 => bytes .fbR []
  | 8 => bytes .portR [BitVec.ofNat 8 w]
  | 16 => bytes .vramR [BitVec.ofNat 8 w, BitVec.ofNat 8 (w / 256)]
  | _ => none

/-- The instruction the decoder reads from a word of the opcode table (bit 0 the least significant bit of the first
byte). -/
def decodeTableWord (nbits w : Nat) : Option Instr := (tableTransaction nbits w).map decode

end Sys2Proof
end

