-- ==== Sys2Proof/Machine/Memory.lean ====
section
/-! DEFINITION. Machine/Memory.lean: a byte memory as plain data: the listed cells in strictly rising order of address, no
listed byte equal to what an unlisted one reads as. VRAM banks and the sprite table are such memories; their reset contents
are 0x00 (10_state.md R36), so an unlisted byte reads 0x00 (log entry 14). -/

namespace Sys2Proof.Machine

/-- A memory: its cells, by rising address. -/
abbrev Memory := List Host.Cell

/-- What an unlisted address reads as: the reset contents of VRAM and OAM, 0x00 (R36). -/
def Memory.unlisted : Byte := 0x00

/-- The byte at an address. -/
def Memory.read (m : Memory) (addr : Nat) : Byte :=
  match m with
  | [] => Memory.unlisted
  | (b, v) :: rest => if b = addr then v else Memory.read rest addr

/-- A cell put at the front, unless its byte is what an unlisted address reads as. -/
def Memory.front (addr : Nat) (v : Byte) (m : Memory) : Memory :=
  if v = Memory.unlisted then m else (addr, v) :: m

/-- Store one byte, keeping the canonical form. -/
def Memory.write (m : Memory) (addr : Nat) (v : Byte) : Memory :=
  match m with
  | [] => Memory.front addr v []
  | (b, w) :: rest =>
    if addr < b then Memory.front addr v ((b, w) :: rest)
    else if b = addr then Memory.front addr v rest
    else (b, w) :: Memory.write rest addr v

/-- The canonical form from address `lo` on, all addresses below `size`. -/
def Memory.wfFrom (lo size : Nat) (m : Memory) : Bool :=
  match m with
  | [] => true
  | (b, v) :: rest =>
    decide (lo ≤ b) && decide (b < size) && decide (v ≠ Memory.unlisted) && Memory.wfFrom (b + 1) size rest

/-- The canonical form of a memory of `size` bytes: addresses strictly rising and below `size`, no cell equal to what an
unlisted address reads as. -/
def Memory.wf (size : Nat) (m : Memory) : Bool := Memory.wfFrom 0 size m

end Sys2Proof.Machine
end

