-- ==== Sys2Proof/Config.lean ====
section
/-! DEFINITION. Config.lean: the configuration parameters of 00_scope.md R8 and the values the spec leaves OPEN.

R8: "The model takes these configuration parameters as arguments. They are fixed at construction and no operation changes
them." The four parameters are one record, `Config`; a machine carries its record in the field `State.cfg`, which no
operation writes, so a statement about every state is a statement about every value of every parameter (log entry 1). -/

namespace Sys2Proof

/-- One RGBA colour, four bytes in the order R, G, B, A (R8, R106). -/
structure Colour where
  r : Byte
  g : Byte
  b : Byte
  a : Byte
deriving DecidableEq, Repr

/-- The four bytes of a frame-buffer pixel in increasing address order (R64, R106). -/
def Colour.bytes (c : Colour) : List Byte := [c.r, c.g, c.b, c.a]

/-- The value of a frame-buffer pixel whose four bytes are 0x00 (R36). -/
def Colour.zero : Colour := ⟨0, 0, 0, 0⟩

/-- Exactly four RGBA colours: the base colour table (R8, R263) and every compiled palette (R32). -/
abbrev Palette := Vector Colour 4

/-- The configuration parameters of R8, each with exactly its legal values. -/
structure Config where
  /-- `BASE_COLORS`: exactly 4 RGBA colours, any values. -/
  baseColours : Palette
  /-- `LCD_ENABLE_CYCLE_OFFSET`: 0 to 455. -/
  lcdEnableCycleOffset : Fin 456
  /-- `STAT_BIT7`: 0 or 1. -/
  statBit7 : BitVec 1
  /-- `EXTENDED_MODE`. -/
  extendedMode : Bool
deriving DecidableEq, Repr

/-- The OPEN value of `LCD_ENABLE_CYCLE_OFFSET` (R8, D16): any number from 0 to 455, and no proof can see which.
Log entry 2. -/
opaque Config.openLcdEnableCycleOffset : Fin 456

/-- The OPEN value of `STAT_BIT7` (R8, D6): 0 or 1, and no proof can see which. Log entry 3. -/
opaque Config.openStatBit7 : BitVec 1

/-- The spec's default of `BASE_COLORS` (R8, R263, D23): the monochrome table, lightest first. -/
def Config.monochrome : Palette :=
  #v[⟨0xFF, 0xFF, 0xFF, 0xFF⟩, ⟨0xC0, 0xC0, 0xC0, 0xFF⟩, ⟨0x60, 0x60, 0x60, 0xFF⟩, ⟨0x00, 0x00, 0x00, 0xFF⟩]

/-- The configuration of the machine `State.reset` is: the spec's default where R8 gives one, the free value where R8
says OPEN. Log entry 4. -/
def Config.powerOn : Config :=
  { baseColours := Config.monochrome
    lcdEnableCycleOffset := Config.openLcdEnableCycleOffset
    statBit7 := Config.openStatBit7
    extendedMode := false }

end Sys2Proof
end

