-- ==== Sys2Proof/Machine/Palette.lean ====
section
/-! DEFINITION. Machine/Palette.lean: the palette compiler (44_palette_compiler.md), a pure function of a palette byte and
the base colour table. The reset state (10_state.md R36) and the palette register writes call it. -/

namespace Sys2Proof.Machine

/-- R99: slot `i` of a palette byte, bits `2i+1 .. 2i`, an index into the base colour table. -/
def paletteSlot (d : Byte) (i : Fin 4) : ColourIndex := d.extractLsb' (2 * i.val) 2

/-- A colour of a palette by a 2-bit index. -/
def paletteColour (p : Palette) (ci : ColourIndex) : Colour := p[ci.toNat]'ci.isLt

/-- R260: `compile(d)[i] = BASE_COLORS[(d >> (2*i)) & 0b11]`. -/
def compile (base : Palette) (d : Byte) : Palette :=
  Vector.ofFn fun i => paletteColour base (paletteSlot d i)

end Sys2Proof.Machine
end

