-- ==== Sys2Proof/Machine/State.lean ====
section
/-! DEFINITION. Machine/State.lean: the state of the machine as plain data, the reasons a step can stop, and the state
right after reset. The block's state is the tuple of 10_state.md R20; three fields are the model's own: the configuration
(log entry 1), the host's transactions still to run (log entry 5) and the results given back to the host (log entry 6). -/

namespace Sys2Proof.Machine

/-- The four modes of R25, kept apart from their wire encoding (R98). -/
inductive Mode where
  | oamScan
  | vramRead
  | hBlank
  | vBlank
deriving DecidableEq, Repr

/-- The stored fields of the register bank (R21). STAT is no stored byte, and LY is `State.ly`. -/
structure Regs where
  /-- LCD control, port 0x40; layout R96. -/
  lcdc : Byte
  /-- STAT bits 6..3: LYC_IE, OAM_IE, VBL_IE, HBL_IE (R97). -/
  statEn : BitVec 4
  /-- Scroll Y, port 0x42. -/
  scy : Byte
  /-- Scroll X, port 0x43. -/
  scx : Byte
  /-- Line compare, port 0x45. -/
  lyc : Byte
  /-- Background palette, port 0x47; layout R99. -/
  bgp : Byte
  /-- Sprite palette 0, port 0x48. -/
  obp0 : Byte
  /-- Sprite palette 1, port 0x49. -/
  obp1 : Byte
  /-- Window Y, port 0x4A. -/
  wy : Byte
  /-- Window X, port 0x4B. -/
  wx : Byte
  /-- VRAM bank select, port 0x4F (R101). -/
  vbk : BitVec 1
deriving DecidableEq, Repr

/-- A decoded tile: 8 rows of 8 colour indices, row 0 the top, column 0 the left (R30). -/
abbrev Tile := Vector (Vector ColourIndex 8) 8

/-- A row of the frame buffer: 160 pixels (R33). -/
abbrev PixelRow := Vector Colour 160

/-- What an operation gives back to the host (R90). A write gives nothing back. -/
inductive Result where
  /-- The byte a register, VRAM or OAM read returns. -/
  | byte (d : Byte)
  /-- `(IF', frame_done)` of a `Step` (R171, R180). -/
  | stepped (f : Byte) (frameDone : Bool)
  /-- The bytes of a `FrameRead` (R278). -/
  | frame (bytes : List Byte)
deriving DecidableEq, Repr

/-- The whole machine. -/
structure State where
  /-- The configuration of R8; no operation writes it (R20; log entry 1). -/
  cfg : Config
  /-- `REG` (R21). -/
  reg : Regs
  /-- The current line (R23). -/
  ly : Nat
  /-- The sub-line cycle counter (R24). -/
  counter : Nat
  /-- R25. -/
  mode : Mode
  /-- `VRAM[0]`, 8192 bytes (R28). -/
  vram0 : Memory
  /-- `VRAM[1]`, 8192 bytes, present in extended mode only (R28; log entry 12). -/
  vram1 : Memory
  /-- `OAM`, 160 bytes (R29). -/
  oam : Memory
  /-- `CACHE`, one decoded grid per tile number (R30). -/
  cache : Vector Tile 384
  /-- `DIRTY`, one flag per tile number (R30). -/
  dirty : Vector Bool 384
  /-- `ANY_DIRTY` (R30). -/
  anyDirty : Bool
  /-- `PAL_BG` (R32). -/
  palBg : Palette
  /-- `PAL_OBP0` (R32). -/
  palObp0 : Palette
  /-- `PAL_OBP1` (R32). -/
  palObp1 : Palette
  /-- `FB`: 144 rows (R33). -/
  fb : Vector PixelRow 144
  /-- `PRIO` (R34). -/
  prio : Vector Nat 160
  /-- `SPRITE_DONE` (R34). -/
  spriteDone : Vector Bool 160
  /-- The host's transactions still to run, oldest first (R70; log entry 5). -/
  inbox : List Transaction
  /-- The results the host has been given, newest first (R347; log entry 6). -/
  results : List Result
deriving DecidableEq, Repr

/-- Why the machine stops for good. -/
inductive Fault where
  /-- `Fault(TileIndexOutOfRange)`: raised by `tilePx` inside a render inside a `Step` when a tile number is 384 or more
  (R206, R303). No operation from any state raises it (R304); safe. -/
  | tileIndexOutOfRange
deriving DecidableEq, Repr

/-- Why an operation is turned away. -/
inductive Refusal where
  /-- An instruction without a meaning, by its mnemonic: raised by the arms of `exec` only; safe. -/
  | notModelled (mnemonic : String)
  /-- `Refused(StepTooLong)`: raised by a `Step` with `n > 456` (R170, R305), as the spec says; safe. -/
  | stepTooLong
deriving DecidableEq, Repr

/-- The register bank after reset (R36). -/
def Regs.reset : Regs :=
  { lcdc := 0x00, statEn := 0b0000, scy := 0x00, scx := 0x00, lyc := 0x00, bgp := 0x00, obp0 := 0x00, obp1 := 0x00,
    wy := 0x00, wx := 0x00, vbk := 0 }

/-- The state after construction with the configuration `c` (R36, R330: "one initial state ... for each choice of the
configuration parameters"). -/
def State.resetWith (c : Config) : State :=
  { cfg := c
    reg := Regs.reset
    ly := 0
    counter := 0
    mode := .oamScan
    vram0 := []
    vram1 := []
    oam := []
    cache := Vector.replicate 384 (Vector.replicate 8 (Vector.replicate 8 0))
    dirty := Vector.replicate 384 false
    anyDirty := false
    palBg := compile c.baseColours 0x00
    palObp0 := compile c.baseColours 0x00
    palObp1 := compile c.baseColours 0x00
    fb := Vector.replicate 144 (Vector.replicate 160 Colour.zero)
    prio := Vector.replicate 160 0
    spriteDone := Vector.replicate 160 false
    inbox := []
    results := [] }

/-- The machine right after reset: the defaults of R8, and the free values where R8 says OPEN (log entries 2 to 4). -/
def State.reset : State := State.resetWith Config.powerOn

end Sys2Proof.Machine
end

