-- ==== Sys2Proof/Machine/Ops.lean ====
section
/-! DEFINITION. Machine/Ops.lean: the named updates of the state and the operations over registers, VRAM and OAM that the
instructions share.

The block takes no exception: "it saves no state, changes no mode or mask, and transfers no control" (60_exceptions.md R314),
and there is no return from one (R315). What an operation can do to the outside is give a result back (`State.emit`) and,
in `Step`, OR request bits into the host's IF byte (Machine/Flags.lean). -/

namespace Sys2Proof.Machine

/-! ### Named updates of the state -/

/-- Give a result back to the host. -/
def State.emit (s : State) (r : Result) : State := { s with results := r :: s.results }

/-- Replace the transactions still to run. -/
def State.setInbox (s : State) (ts : List Transaction) : State := { s with inbox := ts }

/-- Replace the register bank. -/
def State.setReg (s : State) (g : Regs) : State := { s with reg := g }

/-- Replace the line and the counter. -/
def State.setPos (s : State) (ly counter : Nat) : State := { s with ly := ly, counter := counter }

/-- Replace the mode. -/
def State.setMode (s : State) (m : Mode) : State := { s with mode := m }

/-- Replace VRAM bank 0. -/
def State.setVram0 (s : State) (m : Memory) : State := { s with vram0 := m }

/-- Replace VRAM bank 1. -/
def State.setVram1 (s : State) (m : Memory) : State := { s with vram1 := m }

/-- Replace the sprite table. -/
def State.setOam (s : State) (m : Memory) : State := { s with oam := m }

/-- Replace the tile cache with its flags. -/
def State.setTiles (s : State) (cache : Vector Tile 384) (dirty : Vector Bool 384) (anyDirty : Bool) : State :=
  { s with cache := cache, dirty := dirty, anyDirty := anyDirty }

/-- Replace the background palette. -/
def State.setPalBg (s : State) (p : Palette) : State := { s with palBg := p }

/-- Replace sprite palette 0. -/
def State.setPalObp0 (s : State) (p : Palette) : State := { s with palObp0 := p }

/-- Replace sprite palette 1. -/
def State.setPalObp1 (s : State) (p : Palette) : State := { s with palObp1 := p }

/-- Replace the frame buffer and the per-line scratch. -/
def State.setScreen (s : State) (fb : Vector PixelRow 144) (prio : Vector Nat 160) (done : Vector Bool 160) : State :=
  { s with fb := fb, prio := prio, spriteDone := done }

/-! ### Reads -/

/-- The all-ones byte returned for unmapped or unsupported reads (00_scope.md glossary, R301). -/
def sentinel : Byte := 0xFF

/-- A read: the byte goes back to the host, and no state of the block changes (R67, R130). -/
def answer (d : Byte) (s : State) : Host.Outcome State Fault Refusal := .next (s.emit (.byte d))

/-- A write that changes no state (R140, R154, R156, R273, R277). -/
def ignore (s : State) : Host.Outcome State Fault Refusal := .next s

/-! ### VRAM -/

/-- R61: `vbank() = REG.VBK if EXTENDED_MODE else 0`. -/
def vbank (s : State) : BitVec 1 := if s.cfg.extendedMode then s.reg.vbk else 0

/-- The bytes of a VRAM bank (R28). -/
def vramBank (s : State) (b : BitVec 1) : Memory := if b = 0 then s.vram0 else s.vram1

/-- Store one byte of a VRAM bank. -/
def storeVram (s : State) (b : BitVec 1) (off : Nat) (d : Byte) : State :=
  if b = 0 then s.setVram0 (s.vram0.write off d) else s.setVram1 (s.vram1.write off d)

/-- `0x8000 <= a <= 0x9FFF` (R91, R270). -/
def inVramWindow (a : Addr) : Bool := decide (0x8000 ≤ a.toNat) && decide (a.toNat ≤ 0x9FFF)

/-- The bank offset of a window address (R61). -/
def vramOffset (a : Addr) : Nat := a.toNat - 0x8000

/-- R270, R272: `VramRead(a)`. -/
def vramRead (a : Addr) (s : State) : Byte :=
  if inVramWindow a then (vramBank s (vbank s)).read (vramOffset a) else sentinel

/-- R204: a write into bank-0 tile data marks its tile dirty, whatever the byte; any other write marks nothing. -/
def invalidate (a : Addr) (s : State) : State :=
  if h : vbank s = 0 ∧ vramOffset a ≤ 0x17FF then
    s.setTiles s.cache (s.dirty.set (vramOffset a / 16) true (by omega)) true
  else s

/-- R271, R273: `VramWrite(a, d)`. -/
def vramWrite (a : Addr) (d : Byte) (s : State) : State :=
  if inVramWindow a then invalidate a (storeVram s (vbank s) (vramOffset a) d) else s

/-! ### The sprite table -/

/-- R274, R276: `OamRead(o)`. -/
def oamRead (o : Byte) (s : State) : Byte := if o.toNat ≤ 159 then s.oam.read o.toNat else sentinel

/-- R275, R277: `OamWrite(o, d)`. -/
def oamWrite (o d : Byte) (s : State) : State := if o.toNat ≤ 159 then s.setOam (s.oam.write o.toNat d) else s

end Sys2Proof.Machine
end

