-- ==== Sys2Proof/Machine/Flags.lean ====
section
/-! DEFINITION. Machine/Flags.lean: the block's condition bits (10_state.md R27) and interrupt requests (60_exceptions.md
R307, R308): the STAT byte, its enables, and the bits `Step` ORs into the host's IF byte. -/

namespace Sys2Proof.Machine

/-- R98: the mode in STAT bits 1..0. -/
def enc (m : Mode) : BitVec 2 :=
  match m with
  | .hBlank => 0b00
  | .vBlank => 0b01
  | .oamScan => 0b10
  | .vramRead => 0b11

/-- R27: `ly = REG.LYC`, computed when asked. -/
def coincides (s : State) : Bool := decide (s.ly = s.reg.lyc.toNat)

/-- R133: `STAT_BIT7 ++ REG.STAT_EN ++ lyc_flag ++ enc(mode)`. -/
def statByte (s : State) : Byte := s.cfg.statBit7 ++ s.reg.statEn ++ BitVec.ofBool (coincides s) ++ enc s.mode

/-- R134: the four enables a STAT write stores, `d[6:3]`. -/
def statEnables (d : Byte) : BitVec 4 := d.extractLsb' 3 4

/-- R97: STAT bit 6, `REG.STAT_EN[3]`. -/
def lycIe (s : State) : Bool := s.reg.statEn.getLsbD 3

/-- R97: STAT bit 5, `REG.STAT_EN[2]`. -/
def oamIe (s : State) : Bool := s.reg.statEn.getLsbD 2

/-- R97: STAT bit 4, `REG.STAT_EN[1]`. -/
def vblIe (s : State) : Bool := s.reg.statEn.getLsbD 1

/-- R97: STAT bit 3, `REG.STAT_EN[0]`. -/
def hblIe (s : State) : Bool := s.reg.statEn.getLsbD 0

/-- R100: the V-blank request, IF bit 0. -/
def vblankRequest : Byte := 0x01

/-- R100: the LCD-status request, IF bit 1. -/
def statRequest : Byte := 0x02

/-- R307: a request ORs its bit into IF when its enable is set, and never clears a bit. -/
def request (enable : Bool) (bit f : Byte) : Byte := if enable then f ||| bit else f

end Sys2Proof.Machine
end

