-- ==== Sys2Proof/Machine/Operands.lean ====
section
/-! DEFINITION. Machine/Operands.lean: the fields the block reads out of its registers and memory: LCDC bits (30_encoding.md
R96), tile numbers (42_tile_cache.md R202, R203), sprite entries and their flags (R102, R103). -/

namespace Sys2Proof.Machine

/-! ### LCDC (R96) -/

/-- LCDC bit 7: display on. -/
def lcdEn (s : State) : Bool := s.reg.lcdc.getLsbD 7

/-- LCDC bit 6: window map at 0x9C00. -/
def winMapHigh (s : State) : Bool := s.reg.lcdc.getLsbD 6

/-- LCDC bit 5: window on. -/
def winEn (s : State) : Bool := s.reg.lcdc.getLsbD 5

/-- LCDC bit 4: unsigned tile numbers, "alternate-table flag". -/
def tileSel (s : State) : Bool := s.reg.lcdc.getLsbD 4

/-- LCDC bit 3: background map at 0x9C00. -/
def bgMapHigh (s : State) : Bool := s.reg.lcdc.getLsbD 3

/-- LCDC bit 2: 16-pixel sprites. -/
def objTall (s : State) : Bool := s.reg.lcdc.getLsbD 2

/-- LCDC bit 1: sprites on. -/
def objEn (s : State) : Bool := s.reg.lcdc.getLsbD 1

/-- LCDC bit 0: background on. -/
def bgEn (s : State) : Bool := s.reg.lcdc.getLsbD 0

/-- The bank-0 offset of a tile map: 0x1800 (window address 0x9800) or 0x1C00 (0x9C00) (R62, R225, R229). -/
def mapBase (high : Bool) : Nat := if high then 0x1C00 else 0x1800

/-! ### Tile numbers -/

/-- R9: the signed value of a byte, `v` if `v < 128`, else `v - 256`. -/
def sext8 (v : Byte) : Int := if v.toNat < 128 then (v.toNat : Int) else (v.toNat : Int) - 256

/-- R202: a map byte to a tile number, unsigned from tile 0 or signed from tile 256. -/
def bgTile (idx : Byte) (sel : Bool) : Nat := if sel then idx.toNat else (256 + sext8 idx).toNat

/-- R203: a sprite's tile number is unsigned, whatever LCDC bit 4 holds. -/
def objTile (t : Byte) : Nat := t.toNat

/-- R105: the byte of a tile map for pixel row `y` and pixel column `x` of the 256 by 256 plane. -/
def mapByte (s : State) (base y x : Nat) : Byte := s.vram0.read (base + 32 * (y / 8) + x / 8)

/-- A row or column within a tile: the remainder by 8. -/
def within8 (n : Nat) : Fin 8 := ⟨n % 8, Nat.mod_lt n (by decide)⟩

/-! ### Sprites (R102, R103) -/

/-- One OAM entry: bytes `4k` to `4k + 3`. -/
structure Sprite where
  y : Byte
  x : Byte
  tile : Byte
  flags : Byte
deriving DecidableEq, Repr

/-- Entry `k` of the sprite table (R94, R102). -/
def spriteAt (oam : Memory) (k : Nat) : Sprite :=
  { y := oam.read (4 * k), x := oam.read (4 * k + 1), tile := oam.read (4 * k + 2), flags := oam.read (4 * k + 3) }

/-- Flag bit 7: hidden where the background index is non-zero. -/
def Sprite.behind (sp : Sprite) : Bool := sp.flags.getLsbD 7

/-- Flag bit 6: rows reversed. -/
def Sprite.yFlip (sp : Sprite) : Bool := sp.flags.getLsbD 6

/-- Flag bit 5: columns reversed. -/
def Sprite.xFlip (sp : Sprite) : Bool := sp.flags.getLsbD 5

/-- Flag bit 4: OBP1 when set. -/
def Sprite.pal1 (sp : Sprite) : Bool := sp.flags.getLsbD 4

/-- R232: `sy = Y - 16`, a signed integer with no wrap. -/
def Sprite.top (sp : Sprite) : Int := (sp.y.toNat : Int) - 16

/-- R232: `sx = X - 8`, a signed integer with no wrap. -/
def Sprite.left (sp : Sprite) : Int := (sp.x.toNat : Int) - 8

/-- R231: the sprite height, 16 or 8. -/
def spriteHeight (s : State) : Nat := if objTall s then 16 else 8

/-- R233: the sprite is drawn on `line` iff `sy <= line < sy + h`. -/
def Sprite.onLine (sp : Sprite) (h line : Nat) : Bool :=
  decide (sp.top ≤ (line : Int)) && decide ((line : Int) < sp.top + (h : Int))

/-- R234: the sprite row on `line`, reversed over the whole height if YFLIP is set. -/
def Sprite.row (sp : Sprite) (h line : Nat) : Nat :=
  let r := ((line : Int) - sp.top).toNat
  if sp.yFlip then h - 1 - r else r

/-- R235: the tile of a sprite row: `T`, or in 16-pixel mode `(T & 0xFE) | (r div 8)`. -/
def Sprite.tileOf (sp : Sprite) (h r : Nat) : Nat :=
  if h = 16 then objTile ((sp.tile &&& 0xFE) ||| BitVec.ofNat 8 (r / 8)) else objTile sp.tile

/-- R237: the tile column of sprite column `c`, reversed if XFLIP is set. -/
def Sprite.column (sp : Sprite) (c : Fin 8) : Fin 8 := if sp.xFlip then c.rev else c

end Sys2Proof.Machine
end

