-- ==== Sys2Proof/Machine/TileCache.lean ====
section
/-! DEFINITION. Machine/TileCache.lean: the tile cache (42_tile_cache.md): decoding a tile, the refresh at the start of a
render, the lookup the renderer uses. The invalidation (R204) is part of the VRAM write in Machine/Ops.lean. -/

namespace Sys2Proof.Machine

/-- R201, R104: the colour index of column `c` of a tile row: `hi[7 - c] ++ lo[7 - c]`. -/
def decodePixel (lo hi : Byte) (c : Fin 8) : ColourIndex := hi.extractLsb' (7 - c.val) 1 ++ lo.extractLsb' (7 - c.val) 1

/-- R201: the grid of tile `t` from the bytes of bank 0; the even byte of a row is the low plane. -/
def decodeTile (bank : Memory) (t : Nat) : Tile :=
  Vector.ofFn fun r => Vector.ofFn fun c =>
    decodePixel (bank.read (16 * t + 2 * r.val)) (bank.read (16 * t + 2 * r.val + 1)) c

/-- One turn of the refresh loop: a dirty tile is decoded and its own flag cleared (R205). -/
def refreshTile (bank : Memory) (tiles : Vector Tile 384 × Vector Bool 384) (t : Fin 384) :
    Vector Tile 384 × Vector Bool 384 :=
  if tiles.2[t] then (tiles.1.set t (decodeTile bank t), tiles.2.set t false) else tiles

/-- R205: when any tile is dirty, decode every dirty tile, clear its flag, then clear the aggregate flag. -/
def refresh (s : State) : State :=
  if s.anyDirty then
    let tiles := (List.finRange 384).foldl (refreshTile s.vram0) (s.cache, s.dirty)
    s.setTiles tiles.1 tiles.2 false
  else s

/-- R206: the lookup of the renderer; a tile number of 384 or more is the fatal fault (R303). -/
def tilePx (s : State) (t : Nat) (r c : Fin 8) : Except Fault ColourIndex :=
  if h : t < 384 then .ok s.cache[t][r][c] else .error .tileIndexOutOfRange

end Sys2Proof.Machine
end

