-- ==== Sys2Proof/Machine/Render.lean ====
section
/-! DEFINITION. Machine/Render.lean: the scanline renderer (43_scanline_renderer.md): background, window and sprite layers in
that order, pixel by pixel.

The three layers write one row of the frame buffer, the priority buffer and the sprite marks. They are threaded through the
layers as one `LineBuf` and stored when the render ends: a render is one part of one atomic operation (20_memory.md R66), so
nothing can see the difference (log entry 9). -/

namespace Sys2Proof.Machine

/-- What a render writes beside the tile cache: its row of `FB`, `PRIO` and `SPRITE_DONE` (R220). -/
structure LineBuf where
  row : PixelRow
  prio : Vector Nat 160
  done : Vector Bool 160
deriving DecidableEq, Repr

/-- R227, R230: a background or window pixel, with its raw index in the priority buffer. -/
def LineBuf.putTile (b : LineBuf) (pal : Palette) (x : Fin 160) (ci : ColourIndex) : LineBuf :=
  { b with row := b.row.set x (paletteColour pal ci), prio := b.prio.set x ci.toNat }

/-- R240: a sprite pixel; it marks its column and leaves `PRIO` alone. -/
def LineBuf.putSprite (b : LineBuf) (pal : Palette) (x : Fin 160) (ci : ColourIndex) : LineBuf :=
  { b with row := b.row.set x (paletteColour pal ci), done := b.done.set x true }

/-- The raw index of a map's pixel at row `y`, column `x` of its plane (R226, R229). -/
def mapPixel (s : State) (base y x : Nat) : Except Fault ColourIndex :=
  tilePx s (bgTile (mapByte s base y x) (tileSel s)) (within8 y) (within8 x)

/-! ### Background (R224 to R227) -/

/-- R226, R227: output column `x`. -/
def bgColumn (s : State) (line : Nat) (b : LineBuf) (x : Fin 160) : Except Fault LineBuf :=
  let y := (line + s.reg.scy.toNat) % 256
  let xx := (x.val + s.reg.scx.toNat) % 256
  match mapPixel s (mapBase (bgMapHigh s)) y xx with
  | .ok ci => .ok (b.putTile s.palBg x ci)
  | .error e => .error e

/-- The background layer: every column. -/
def bgLine (s : State) (line : Nat) (b : LineBuf) : Except Fault LineBuf :=
  (List.finRange 160).foldlM (bgColumn s line) b

/-! ### Window (R228 to R230) -/

/-- R228: the window covers the columns with `x + 7 >= WX` of the lines with `line >= WY`. -/
def windowCovers (s : State) (line : Nat) (x : Fin 160) : Bool :=
  decide (s.reg.wy.toNat ≤ line) && decide (s.reg.wx.toNat ≤ x.val + 7)

/-- R229, R230: output column `x`, left alone where the window does not cover it. -/
def winColumn (s : State) (line : Nat) (b : LineBuf) (x : Fin 160) : Except Fault LineBuf :=
  if windowCovers s line x then
    let wy := line - s.reg.wy.toNat
    let wx := x.val + 7 - s.reg.wx.toNat
    match mapPixel s (mapBase (winMapHigh s)) wy wx with
    | .ok ci => .ok (b.putTile s.palBg x ci)
    | .error e => .error e
  else .ok b

/-- The window layer: every column. -/
def winLine (s : State) (line : Nat) (b : LineBuf) : Except Fault LineBuf :=
  (List.finRange 160).foldlM (winColumn s line) b

/-! ### Sprites (R231 to R240) -/

/-- R236: flag bit 4 set selects OBP1. -/
def spritePalette (s : State) (sp : Sprite) : Palette := if sp.pal1 then s.palObp1 else s.palObp0

/-- R234, R235, R237: the colour index of sprite column `c` on `line`. -/
def spritePixel (s : State) (line : Nat) (sp : Sprite) (c : Fin 8) : Except Fault ColourIndex :=
  let r := sp.row (spriteHeight s) line
  tilePx s (sp.tileOf (spriteHeight s) r) (within8 r) (sp.column c)

/-- R238: sprite column `c` at screen column `x`: skipped by the background-priority encoding, by the behind-background
flag over a non-zero background index, by transparency or by an earlier sprite's write; else drawn. -/
def spriteAtColumn (s : State) (line : Nat) (sp : Sprite) (b : LineBuf) (c : Fin 8) (x : Fin 160) :
    Except Fault LineBuf :=
  if 4 ≤ b.prio[x] then .ok b
  else if sp.behind && decide (b.prio[x] ≠ 0) then .ok b
  else
    match spritePixel s line sp c with
    | .ok ci => if ci = 0 then .ok b else if b.done[x] then .ok b else .ok (b.putSprite (spritePalette s sp) x ci)
    | .error e => .error e

/-- R238 test 1: the screen column of sprite column `c` is `sx + c`; off-screen columns are skipped. -/
def spriteColumn (s : State) (line : Nat) (sp : Sprite) (b : LineBuf) (c : Fin 8) : Except Fault LineBuf :=
  let px : Int := sp.left + (c.val : Int)
  if h : 0 ≤ px ∧ px < 160 then spriteAtColumn s line sp b c ⟨px.toNat, by omega⟩ else .ok b

/-- R232, R233: entry `k`, if it is on the line. -/
def spriteEntry (s : State) (line : Nat) (b : LineBuf) (k : Fin 40) : Except Fault LineBuf :=
  let sp := spriteAt s.oam k.val
  if sp.onLine (spriteHeight s) line then (List.finRange 8).foldlM (spriteColumn s line sp) b else .ok b

/-- The sprite layer: the 40 entries in table order, with no limit per line (R232). -/
def objLine (s : State) (line : Nat) (b : LineBuf) : Except Fault LineBuf :=
  (List.finRange 40).foldlM (spriteEntry s line) b

/-! ### The whole line -/

/-- Run a layer if it is enabled. -/
def layer (enabled : Bool) (draw : LineBuf → Except Fault LineBuf) (b : LineBuf) : Except Fault LineBuf :=
  if enabled then draw b else .ok b

/-- R222, R223: the layers over the row as it stands, with cleared scratch. -/
def composeLine (s : State) (line : Fin 144) : Except Fault LineBuf :=
  match layer (bgEn s) (bgLine s line.val)
      { row := s.fb[line], prio := Vector.replicate 160 0, done := Vector.replicate 160 false } with
  | .error e => .error e
  | .ok b1 =>
    match layer (winEn s) (winLine s line.val) b1 with
    | .error e => .error e
    | .ok b2 => layer (objEn s) (objLine s line.val) b2

/-- R220, R222: `Render(line)`. With the display off it changes nothing (R221). -/
def render (line : Fin 144) (s : State) : Except Fault State :=
  if lcdEn s then
    let s' := refresh s
    match composeLine s' line with
    | .ok b => .ok (s'.setScreen (s'.fb.set line b.row) b.prio b.done)
    | .error e => .error e
  else .ok s

end Sys2Proof.Machine
end

