-- ==== Sys2Proof/Machine/ModeMachine.lean ====
section
/-! DEFINITION. Machine/ModeMachine.lean: the mode state machine (41_mode_state_machine.md): the operation `Step(n, IF)` of
R171, part by part in its order, and the instructions STEP and STEP_REFUSED. -/

namespace Sys2Proof.Machine

/-- The running values of one `Step`: the state, the IF byte and the `frame_done` output. -/
structure Tick where
  st : State
  ifByte : Byte
  frameDone : Bool
deriving DecidableEq, Repr

/-- OR a request into the running IF byte when its enable is set. -/
def Tick.raise (w : Tick) (enable : Bool) (bit : Byte) : Tick := { w with ifByte := request enable bit w.ifByte }

/-- R175: the mode of a visible line by the counter, thresholds inclusive. -/
def modeOf (c : Nat) : Mode := if c ≤ 80 then .oamScan else if c ≤ 252 then .vramRead else .hBlank

/-- R173: V-blank entry, if the new line is 144 or more and the mode is not V-blank already. -/
def enterVBlank (w : Tick) : Tick :=
  if 144 ≤ w.st.ly ∧ w.st.mode ≠ .vBlank then
    let w' : Tick := { st := w.st.setMode .vBlank, ifByte := w.ifByte, frameDone := true }
    (w'.raise true vblankRequest).raise (vblIe w.st) statRequest
  else w

/-- R174: the coincidence compare of a line advance, whatever the mode. -/
def compareLine (w : Tick) : Tick := w.raise (coincides w.st && lycIe w.st) statRequest

/-- R172: the line advance, at most one per `Step`, with what it triggers. -/
def advanceLine (w : Tick) : Tick :=
  if 456 ≤ w.st.counter then
    compareLine (enterVBlank { w with st := w.st.setPos ((w.st.ly + 1) % 154) (w.st.counter - 456) })
  else w

/-- R177 to R179: the entry action of a mode of a visible line. -/
def entryAction (line : Fin 144) (m : Mode) (w : Tick) : Except Fault Tick :=
  match m with
  | .oamScan => .ok (w.raise (oamIe w.st) statRequest)
  | .vramRead => .ok w
  | .hBlank =>
    match render line w.st with
    | .ok s => .ok { (w.raise (hblIe w.st) statRequest) with st := s }
    | .error e => .error e
  | .vBlank => .ok w

/-- R176: on a visible line, take the mode of the counter; its entry action runs only if the mode changes. -/
def selectMode (w : Tick) : Except Fault Tick :=
  if h : w.st.ly < 144 then
    if modeOf w.st.counter = w.st.mode then .ok w
    else entryAction ⟨w.st.ly, h⟩ (modeOf w.st.counter) { w with st := w.st.setMode (modeOf w.st.counter) }
  else .ok w

/-- R171: `Step(n, IF)`. -/
def stepBlock (n : Nat) (f : Byte) (s : State) : Host.Outcome State Fault Refusal :=
  if 456 < n then .refused .stepTooLong
  else
    match selectMode (advanceLine { st := s.setPos s.ly (s.counter + n), ifByte := f, frameDone := false }) with
    | .ok w => .next (w.st.emit (.stepped w.ifByte w.frameDone))
    | .error e => .fault e

/-- STEP (R171). -/
def execStep (n : Nat) (f : Byte) (s : State) : Host.Outcome State Fault Refusal := stepBlock n f s

/-- STEP_REFUSED (R170, R305): `n > 456` "ends in `Refused(StepTooLong)` and changes no state". -/
def execStepRefused (_n : Nat) (_f : Byte) (_s : State) : Host.Outcome State Fault Refusal := .refused .stepTooLong

end Sys2Proof.Machine
end

