-- ==== Sys2Proof/Machine/RegisterBank.lean ====
section
/-! DEFINITION. Machine/RegisterBank.lean: the register reads and writes (40_register_bank.md R131 to R154). None raises a
request, renders or changes the mode (R157). -/

namespace Sys2Proof.Machine

/-! ### LCDC, port 0x40 -/

/-- RD_LCDC (R131). -/
def execRdLcdc (s : State) : Host.Outcome State Fault Refusal := answer s.reg.lcdc s

/-- WR_LCDC (R132): the byte is stored; bit 7 going from 0 to 1 restarts the line and the counter and nothing else
(R332). -/
def execWrLcdc (d : Byte) (s : State) : Host.Outcome State Fault Refusal :=
  let s' := s.setReg { s.reg with lcdc := d }
  if !s.reg.lcdc.getLsbD 7 && d.getLsbD 7 then .next (s'.setPos 0 s.cfg.lcdEnableCycleOffset.val) else .next s'

/-! ### STAT, port 0x41 -/

/-- RD_STAT (R133). -/
def execRdStat (s : State) : Host.Outcome State Fault Refusal := answer (statByte s) s

/-- WR_STAT (R134): only the four enables are stored. -/
def execWrStat (d : Byte) (s : State) : Host.Outcome State Fault Refusal :=
  .next (s.setReg { s.reg with statEn := statEnables d })

/-! ### SCY and SCX, ports 0x42 and 0x43 -/

/-- RD_SCY (R135). -/
def execRdScy (s : State) : Host.Outcome State Fault Refusal := answer s.reg.scy s

/-- WR_SCY (R136). -/
def execWrScy (d : Byte) (s : State) : Host.Outcome State Fault Refusal := .next (s.setReg { s.reg with scy := d })

/-- RD_SCX (R137). -/
def execRdScx (s : State) : Host.Outcome State Fault Refusal := answer s.reg.scx s

/-- WR_SCX (R138). -/
def execWrScx (d : Byte) (s : State) : Host.Outcome State Fault Refusal := .next (s.setReg { s.reg with scx := d })

/-! ### LY and LYC, ports 0x44 and 0x45 -/

/-- RD_LY (R139): `ly` as a byte (0 to 153). -/
def execRdLy (s : State) : Host.Outcome State Fault Refusal := answer (BitVec.ofNat 8 s.ly) s

/-- WR_LY (R140): the write changes no state. -/
def execWrLy (_d : Byte) (s : State) : Host.Outcome State Fault Refusal := ignore s

/-- RD_LYC (R141). -/
def execRdLyc (s : State) : Host.Outcome State Fault Refusal := answer s.reg.lyc s

/-- WR_LYC (R142): no request, even if the new value is the current line. -/
def execWrLyc (d : Byte) (s : State) : Host.Outcome State Fault Refusal := .next (s.setReg { s.reg with lyc := d })

/-! ### Palettes, ports 0x47, 0x48, 0x49 -/

/-- RD_BGP (R143): the raw byte. -/
def execRdBgp (s : State) : Host.Outcome State Fault Refusal := answer s.reg.bgp s

/-- WR_BGP (R144): store and recompile. -/
def execWrBgp (d : Byte) (s : State) : Host.Outcome State Fault Refusal :=
  .next ((s.setReg { s.reg with bgp := d }).setPalBg (compile s.cfg.baseColours d))

/-- RD_OBP0 (R145). -/
def execRdObp0 (s : State) : Host.Outcome State Fault Refusal := answer s.reg.obp0 s

/-- WR_OBP0 (R146): store and recompile. -/
def execWrObp0 (d : Byte) (s : State) : Host.Outcome State Fault Refusal :=
  .next ((s.setReg { s.reg with obp0 := d }).setPalObp0 (compile s.cfg.baseColours d))

/-- RD_OBP1 (R147). -/
def execRdObp1 (s : State) : Host.Outcome State Fault Refusal := answer s.reg.obp1 s

/-- WR_OBP1 (R148): store and recompile. -/
def execWrObp1 (d : Byte) (s : State) : Host.Outcome State Fault Refusal :=
  .next ((s.setReg { s.reg with obp1 := d }).setPalObp1 (compile s.cfg.baseColours d))

/-! ### WY and WX, ports 0x4A and 0x4B -/

/-- RD_WY (R149). -/
def execRdWy (s : State) : Host.Outcome State Fault Refusal := answer s.reg.wy s

/-- WR_WY (R150). -/
def execWrWy (d : Byte) (s : State) : Host.Outcome State Fault Refusal := .next (s.setReg { s.reg with wy := d })

/-- RD_WX (R151). -/
def execRdWx (s : State) : Host.Outcome State Fault Refusal := answer s.reg.wx s

/-- WR_WX (R152). -/
def execWrWx (d : Byte) (s : State) : Host.Outcome State Fault Refusal := .next (s.setReg { s.reg with wx := d })

/-! ### VBK, port 0x4F -/

/-- RD_VBK (R153): `0b1111111 ++ REG.VBK` in extended mode, else the sentinel. -/
def execRdVbk (s : State) : Host.Outcome State Fault Refusal :=
  if s.cfg.extendedMode then answer ((0b1111111 : BitVec 7) ++ s.reg.vbk) s else answer sentinel s

/-- WR_VBK (R154): bit 0 is stored in extended mode, else nothing. -/
def execWrVbk (d : Byte) (s : State) : Host.Outcome State Fault Refusal :=
  if s.cfg.extendedMode then .next (s.setReg { s.reg with vbk := d.extractLsb' 0 1 }) else ignore s

end Sys2Proof.Machine
end

