-- ==== Sys2Proof/Machine/Unmapped.lean ====
section
/-! DEFINITION. Machine/Unmapped.lean: the unmapped ports (40_register_bank.md R155, R156; 30_encoding.md R107): a read
returns the all-ones sentinel and a write changes no state: "a recoverable, expected condition, not an error". -/

namespace Sys2Proof.Machine

/-- RD_UNMAPPED_00_3F (R155). -/
def execRdUnmapped00To3F (_p : Byte) (s : State) : Host.Outcome State Fault Refusal := answer sentinel s

/-- WR_UNMAPPED_00_3F (R156). -/
def execWrUnmapped00To3F (_p : Byte) (_d : Byte) (s : State) : Host.Outcome State Fault Refusal := ignore s

/-- RD_UNMAPPED_46 (R155). -/
def execRdUnmapped46 (s : State) : Host.Outcome State Fault Refusal := answer sentinel s

/-- WR_UNMAPPED_46 (R156). -/
def execWrUnmapped46 (_d : Byte) (s : State) : Host.Outcome State Fault Refusal := ignore s

/-- RD_UNMAPPED_4C (R155). -/
def execRdUnmapped4C (s : State) : Host.Outcome State Fault Refusal := answer sentinel s

/-- WR_UNMAPPED_4C (R156). -/
def execWrUnmapped4C (_d : Byte) (s : State) : Host.Outcome State Fault Refusal := ignore s

/-- RD_UNMAPPED_4D (R155). -/
def execRdUnmapped4D (s : State) : Host.Outcome State Fault Refusal := answer sentinel s

/-- WR_UNMAPPED_4D (R156). -/
def execWrUnmapped4D (_d : Byte) (s : State) : Host.Outcome State Fault Refusal := ignore s

/-- RD_UNMAPPED_4E (R155). -/
def execRdUnmapped4E (s : State) : Host.Outcome State Fault Refusal := answer sentinel s

/-- WR_UNMAPPED_4E (R156). -/
def execWrUnmapped4E (_d : Byte) (s : State) : Host.Outcome State Fault Refusal := ignore s

/-- RD_UNMAPPED_50_5F (R155). -/
def execRdUnmapped50To5F (_p : Byte) (s : State) : Host.Outcome State Fault Refusal := answer sentinel s

/-- WR_UNMAPPED_50_5F (R156). -/
def execWrUnmapped50To5F (_p : Byte) (_d : Byte) (s : State) : Host.Outcome State Fault Refusal := ignore s

/-- RD_UNMAPPED_60_7F (R155). -/
def execRdUnmapped60To7F (_p : Byte) (s : State) : Host.Outcome State Fault Refusal := answer sentinel s

/-- WR_UNMAPPED_60_7F (R156). -/
def execWrUnmapped60To7F (_p : Byte) (_d : Byte) (s : State) : Host.Outcome State Fault Refusal := ignore s

/-- RD_UNMAPPED_80_FF (R155). -/
def execRdUnmapped80ToFF (_p : Byte) (s : State) : Host.Outcome State Fault Refusal := answer sentinel s

/-- WR_UNMAPPED_80_FF (R156). -/
def execWrUnmapped80ToFF (_p : Byte) (_d : Byte) (s : State) : Host.Outcome State Fault Refusal := ignore s

end Sys2Proof.Machine
end

