-- ==== Sys2Proof/Machine/VideoPorts.lean ====
section
/-! DEFINITION. Machine/VideoPorts.lean: the VRAM, OAM and frame-buffer ports (45_memory_ports.md). Every access works in
every mode (R279). -/

namespace Sys2Proof.Machine

/-- VRAM_RD (R270). -/
def execVramRd (a : Addr) (s : State) : Host.Outcome State Fault Refusal := answer (vramRead a s) s

/-- VRAM_WR (R271). -/
def execVramWr (a : Addr) (d : Byte) (s : State) : Host.Outcome State Fault Refusal := .next (vramWrite a d s)

/-- VRAM_RD_OUT_0000_7FFF (R272). -/
def execVramRdOut0000To7FFF (_a : Addr) (s : State) : Host.Outcome State Fault Refusal := answer sentinel s

/-- VRAM_WR_OUT_0000_7FFF (R273). -/
def execVramWrOut0000To7FFF (_a : Addr) (_d : Byte) (s : State) : Host.Outcome State Fault Refusal := ignore s

/-- VRAM_RD_OUT_A000_BFFF (R272). -/
def execVramRdOutA000ToBFFF (_a : Addr) (s : State) : Host.Outcome State Fault Refusal := answer sentinel s

/-- VRAM_WR_OUT_A000_BFFF (R273). -/
def execVramWrOutA000ToBFFF (_a : Addr) (_d : Byte) (s : State) : Host.Outcome State Fault Refusal := ignore s

/-- VRAM_RD_OUT_C000_FFFF (R272). -/
def execVramRdOutC000ToFFFF (_a : Addr) (s : State) : Host.Outcome State Fault Refusal := answer sentinel s

/-- VRAM_WR_OUT_C000_FFFF (R273). -/
def execVramWrOutC000ToFFFF (_a : Addr) (_d : Byte) (s : State) : Host.Outcome State Fault Refusal := ignore s

/-- OAM_RD_00_7F (R274). -/
def execOamRd00To7F (o : Byte) (s : State) : Host.Outcome State Fault Refusal := answer (oamRead o s) s

/-- OAM_WR_00_7F (R275). -/
def execOamWr00To7F (o : Byte) (d : Byte) (s : State) : Host.Outcome State Fault Refusal := .next (oamWrite o d s)

/-- OAM_RD_80_9F (R274). -/
def execOamRd80To9F (o : Byte) (s : State) : Host.Outcome State Fault Refusal := answer (oamRead o s) s

/-- OAM_WR_80_9F (R275). -/
def execOamWr80To9F (o : Byte) (d : Byte) (s : State) : Host.Outcome State Fault Refusal := .next (oamWrite o d s)

/-- OAM_RD_OUT_A0_BF (R276). -/
def execOamRdOutA0ToBF (_o : Byte) (s : State) : Host.Outcome State Fault Refusal := answer sentinel s

/-- OAM_WR_OUT_A0_BF (R277). -/
def execOamWrOutA0ToBF (_o : Byte) (_d : Byte) (s : State) : Host.Outcome State Fault Refusal := ignore s

/-- OAM_RD_OUT_C0_FF (R276). -/
def execOamRdOutC0ToFF (_o : Byte) (s : State) : Host.Outcome State Fault Refusal := answer sentinel s

/-- OAM_WR_OUT_C0_FF (R277). -/
def execOamWrOutC0ToFF (_o : Byte) (_d : Byte) (s : State) : Host.Outcome State Fault Refusal := ignore s

/-- R278, R106: the bytes of the frame buffer, row by row from the top, pixel by pixel from the left, R, G, B, A. -/
def frameBytes (fb : Vector PixelRow 144) : List Byte := fb.toList.flatMap fun row => row.toList.flatMap Colour.bytes

/-- FRAME_RD (R278). -/
def execFrameRd (s : State) : Host.Outcome State Fault Refusal := .next (s.emit (.frame (frameBytes s.fb)))

end Sys2Proof.Machine
end

