-- ==== Sys2Proof/Machine/Dispatch.lean ====
section
/-! DEFINITION. Machine/Dispatch.lean: one arm per constructor of Instr, each one call of the instruction's meaning. -/

namespace Sys2Proof.Machine

def exec (i : Instr) (s : State) : Host.Outcome State Fault Refusal :=
  match i with
  | .rdLcdc => Sys2Proof.Machine.execRdLcdc s
  | .wrLcdc d => Sys2Proof.Machine.execWrLcdc d s
  | .rdStat => Sys2Proof.Machine.execRdStat s
  | .wrStat d => Sys2Proof.Machine.execWrStat d s
  | .rdScy => Sys2Proof.Machine.execRdScy s
  | .wrScy d => Sys2Proof.Machine.execWrScy d s
  | .rdScx => Sys2Proof.Machine.execRdScx s
  | .wrScx d => Sys2Proof.Machine.execWrScx d s
  | .rdLy => Sys2Proof.Machine.execRdLy s
  | .wrLy d => Sys2Proof.Machine.execWrLy d s
  | .rdLyc => Sys2Proof.Machine.execRdLyc s
  | .wrLyc d => Sys2Proof.Machine.execWrLyc d s
  | .rdBgp => Sys2Proof.Machine.execRdBgp s
  | .wrBgp d => Sys2Proof.Machine.execWrBgp d s
  | .rdObp0 => Sys2Proof.Machine.execRdObp0 s
  | .wrObp0 d => Sys2Proof.Machine.execWrObp0 d s
  | .rdObp1 => Sys2Proof.Machine.execRdObp1 s
  | .wrObp1 d => Sys2Proof.Machine.execWrObp1 d s
  | .rdWy => Sys2Proof.Machine.execRdWy s
  | .wrWy d => Sys2Proof.Machine.execWrWy d s
  | .rdWx => Sys2Proof.Machine.execRdWx s
  | .wrWx d => Sys2Proof.Machine.execWrWx d s
  | .rdVbk => Sys2Proof.Machine.execRdVbk s
  | .wrVbk d => Sys2Proof.Machine.execWrVbk d s
  | .rdUnmapped00To3F p => Sys2Proof.Machine.execRdUnmapped00To3F p s
  | .wrUnmapped00To3F p d => Sys2Proof.Machine.execWrUnmapped00To3F p d s
  | .rdUnmapped46 => Sys2Proof.Machine.execRdUnmapped46 s
  | .wrUnmapped46 d => Sys2Proof.Machine.execWrUnmapped46 d s
  | .rdUnmapped4C => Sys2Proof.Machine.execRdUnmapped4C s
  | .wrUnmapped4C d => Sys2Proof.Machine.execWrUnmapped4C d s
  | .rdUnmapped4D => Sys2Proof.Machine.execRdUnmapped4D s
  | .wrUnmapped4D d => Sys2Proof.Machine.execWrUnmapped4D d s
  | .rdUnmapped4E => Sys2Proof.Machine.execRdUnmapped4E s
  | .wrUnmapped4E d => Sys2Proof.Machine.execWrUnmapped4E d s
  | .rdUnmapped50To5F p => Sys2Proof.Machine.execRdUnmapped50To5F p s
  | .wrUnmapped50To5F p d => Sys2Proof.Machine.execWrUnmapped50To5F p d s
  | .rdUnmapped60To7F p => Sys2Proof.Machine.execRdUnmapped60To7F p s
  | .wrUnmapped60To7F p d => Sys2Proof.Machine.execWrUnmapped60To7F p d s
  | .rdUnmapped80ToFF p => Sys2Proof.Machine.execRdUnmapped80ToFF p s
  | .wrUnmapped80ToFF p d => Sys2Proof.Machine.execWrUnmapped80ToFF p d s
  | .vramRd a => Sys2Proof.Machine.execVramRd a s
  | .vramWr a d => Sys2Proof.Machine.execVramWr a d s
  | .vramRdOut0000To7FFF a => Sys2Proof.Machine.execVramRdOut0000To7FFF a s
  | .vramWrOut0000To7FFF a d => Sys2Proof.Machine.execVramWrOut0000To7FFF a d s
  | .vramRdOutA000ToBFFF a => Sys2Proof.Machine.execVramRdOutA000ToBFFF a s
  | .vramWrOutA000ToBFFF a d => Sys2Proof.Machine.execVramWrOutA000ToBFFF a d s
  | .vramRdOutC000ToFFFF a => Sys2Proof.Machine.execVramRdOutC000ToFFFF a s
  | .vramWrOutC000ToFFFF a d => Sys2Proof.Machine.execVramWrOutC000ToFFFF a d s
  | .oamRd00To7F o => Sys2Proof.Machine.execOamRd00To7F o s
  | .oamWr00To7F o d => Sys2Proof.Machine.execOamWr00To7F o d s
  | .oamRd80To9F o => Sys2Proof.Machine.execOamRd80To9F o s
  | .oamWr80To9F o d => Sys2Proof.Machine.execOamWr80To9F o d s
  | .oamRdOutA0ToBF o => Sys2Proof.Machine.execOamRdOutA0ToBF o s
  | .oamWrOutA0ToBF o d => Sys2Proof.Machine.execOamWrOutA0ToBF o d s
  | .oamRdOutC0ToFF o => Sys2Proof.Machine.execOamRdOutC0ToFF o s
  | .oamWrOutC0ToFF o d => Sys2Proof.Machine.execOamWrOutC0ToFF o d s
  | .step n f => Sys2Proof.Machine.execStep n f s
  | .stepRefused n f => Sys2Proof.Machine.execStepRefused n f s
  | .frameRd => Sys2Proof.Machine.execFrameRd s

end Sys2Proof.Machine
end

