-- ==== Sys2Proof/Machine/Step.lean ====
section
/-! DEFINITION. Machine/Step.lean: one step of the machine: it runs the host's next transaction.

The block fetches nothing (10_state.md R22): "the host supplies every operation". The transactions the host has supplied
and that have not run wait in `State.inbox`; a step takes the oldest, decodes it and runs it (log entry 5). -/

namespace Sys2Proof.Machine

/-- One step: the oldest waiting transaction is taken from the inbox and run. With none waiting nothing happens, because
"all state transitions happen inside calls" (R66). -/
def step (s : State) : Host.Outcome State Fault Refusal :=
  match s.inbox with
  | [] => .next s
  | t :: rest => exec (decode t) (s.setInbox rest)

/-- The state with the transaction of an opcode-table word as the next one to run; unchanged where the word is none
(log entry 7). -/
def State.withFetchWord (s : State) (nbits w : Nat) : State :=
  match tableTransaction nbits w with
  | some t => s.setInbox (t :: s.inbox)
  | none => s

end Sys2Proof.Machine
end

