-- ==== Sys2Proof/Machine/Run.lean ====
section
/-! DEFINITION. Machine/Run.lean: a run of operations and what it is observed to give (70_reset_and_hazards.md R347).

The operations are the host's transactions, each with the operands the host chooses (R346): the IF byte of a STEP among
them, which the host may have cleared bits of since the last STEP. -/

namespace Sys2Proof.Machine

/-- One operation, handed to the machine and run by one step. -/
def runOperation (s : State) (t : Transaction) : Host.Outcome State Fault Refusal := step (s.setInbox [t])

/-- What ends a run before its last operation (R347, 60_exceptions.md R306). -/
inductive Stop where
  /-- The fatal fault of 60_exceptions.md R303; unreachable (R304). -/
  | fault (r : Fault)
  /-- The refusal of 60_exceptions.md R305. -/
  | refused (r : Refusal)
deriving DecidableEq, Repr

/-- Run the operations until the last one, or to the first whose outcome is a fault or a refusal (R347): the state after
the last operation that ended normally, and what stopped the run, if anything did. -/
def runOperations (s : State) (ts : List Transaction) : State × Option Stop :=
  match ts with
  | [] => (s, none)
  | t :: rest =>
    match runOperation s t with
    | .next s' => runOperations s' rest
    | .fault r => (s, some (.fault r))
    | .refused r => (s, some (.refused r))

/-! ### The observation of a run -/

/-- One entry of the sequence a run is observed to give: an operation's result, or the outcome that ended the run. -/
inductive Observed where
  | result (r : Result)
  | fault (r : Fault)
  | refused (r : Refusal)
deriving DecidableEq, Repr

/-- The observation of a run: the operation results in order, then the outcome that ended the run if one did; and the
final state of a run that ends normally. -/
structure Observation where
  sequence : List Observed
  final : Option State
deriving DecidableEq, Repr

/-- The results the operations have given so far, in the order they were given. -/
def State.answers (s : State) : List Result := s.results.reverse

/-- The entry an end before the last operation leaves at the end of the sequence. -/
def Stop.observed (e : Stop) : Observed :=
  match e with
  | .fault r => .fault r
  | .refused r => .refused r

/-- The observation of a run by how it ended: "A run that ends in `Fault` or `Refused` observes that outcome as its last
result." -/
def observeEnd (e : State × Option Stop) : Observation :=
  match e with
  | (s, none) => { sequence := s.answers.map .result, final := some s }
  | (s, some stop) => { sequence := s.answers.map .result ++ [stop.observed], final := none }

/-- The observation of operations run on from `s`, after whatever has been answered already. -/
def observeOperations (s : State) (ts : List Transaction) : Observation := observeEnd (runOperations s ts)

/-- The observation of a run (R347): "a finite sequence of operations from the reset state". -/
def observeRun (c : Config) (ts : List Transaction) : Observation := observeOperations (State.resetWith c) ts

end Sys2Proof.Machine
end

