-- ==== Sys2Proof/Machine/Program.lean ====
section
/-! DEFINITION. Machine/Program.lean: the transaction programs of 30_encoding.md R110 and R111.

A program runs with one host variable `IF`, which the host owns (10_state.md R20): each STEP passes it in and stores the
result back. So this is the host's side of the interface, written beside the machine (log entry 11). A program is one way
a host comes to issue operations; a run of any operations, with any IF bytes, is in Machine/Run.lean. -/

namespace Sys2Proof.Machine

/-- One line of a program: one transaction (R110). -/
inductive ProgramLine where
  /-- `RD p`. -/
  | rd (p : Byte)
  /-- `WR p, d`. -/
  | wr (p : Byte) (d : Byte)
  /-- `VRD a`. -/
  | vrd (a : Addr)
  /-- `VWR a, d`. -/
  | vwr (a : Addr) (d : Byte)
  /-- `ORD o`. -/
  | ord (o : Byte)
  /-- `OWR o, d`. -/
  | owr (o : Byte) (d : Byte)
  /-- `STEP n`: `(IF, fd) <- Step(n, IF)`. -/
  | step (n : Nat)
  /-- `FRAME`. -/
  | frame
deriving DecidableEq, Repr

/-- The machine with the host's variables: `IF`, and `fd`, the last `frame_done` (R110). -/
structure HostRun where
  st : State
  ifByte : Byte
  frameDone : Bool
deriving DecidableEq, Repr

/-- The start of a program: the reset state, `IF = 0x00` (R110). DESIGN CHOICE: `fd` starts as `false`; R110 says only that
it "records the last `frame_done`" and gives it no value before the first STEP (log entry 17). -/
def HostRun.start (c : Config) : HostRun := { st := State.resetWith c, ifByte := 0x00, frameDone := false }

/-- The transaction of a line; a STEP passes the host's `IF` in. -/
def ProgramLine.transaction (l : ProgramLine) (ifByte : Byte) : Transaction :=
  match l with
  | .rd p => .portR p
  | .wr p d => .portW p d
  | .vrd a => .vramR a
  | .vwr a d => .vramW a d
  | .ord o => .oamR o
  | .owr o d => .oamW o d
  | .step n => .step n ifByte
  | .frame => .fbR

/-- The host's variables after a line: a STEP's result is stored back, nothing else touches them. -/
def HostRun.after (h : HostRun) (l : ProgramLine) (s : State) : HostRun :=
  match l, s.results with
  | .step _, .stepped f fd :: _ => { st := s, ifByte := f, frameDone := fd }
  | _, _ => { h with st := s }

/-- Run one line: hand its transaction to the machine and take one step. -/
def runLine (h : HostRun) (l : ProgramLine) : Host.Outcome HostRun Fault Refusal :=
  match runOperation h.st (l.transaction h.ifByte) with
  | .next s => .next (h.after l s)
  | .fault r => .fault r
  | .refused r => .refused r

/-- Run the lines until the last one, or to the first whose outcome is a fault or a refusal (R347): the machine and the
host's variables after the last line that ended normally, and what stopped the run, if anything did. -/
def runUntil (h : HostRun) (ls : List ProgramLine) : HostRun × Option Stop :=
  match ls with
  | [] => (h, none)
  | l :: rest =>
    match runLine h l with
    | .next h' => runUntil h' rest
    | .fault r => (h, some (.fault r))
    | .refused r => (h, some (.refused r))

/-- Run a program: its outcome as a whole. -/
def runProgram (h : HostRun) (ls : List ProgramLine) : Host.Outcome HostRun Fault Refusal :=
  match runUntil h ls with
  | (h', none) => .next h'
  | (_, some (.fault r)) => .fault r
  | (_, some (.refused r)) => .refused r

/-- The operations a program issues: each line's transaction, with the host's `IF` as it then is, up to the one that stops
the run. -/
def operationsOf (h : HostRun) (ls : List ProgramLine) : List Transaction :=
  match ls with
  | [] => []
  | l :: rest =>
    l.transaction h.ifByte ::
      match runLine h l with
      | .next h' => operationsOf h' rest
      | .fault _ => []
      | .refused _ => []

/-- The results the operations have given so far, in the order they were given. -/
def HostRun.observation (h : HostRun) : List Result := h.st.answers

/-- The observation of a program run on from `h`, after whatever `h` has been answered already (R347). -/
def observe (h : HostRun) (ls : List ProgramLine) : Observation :=
  observeEnd ((runUntil h ls).1.st, (runUntil h ls).2)

/-- The observation of a program run from the reset state. -/
def observeProgram (c : Config) (ls : List ProgramLine) : Observation := observe (HostRun.start c) ls

/-! ### Pseudo-instructions (R111) -/

/-- `LINE`: `STEP 81`, `STEP 172`, `STEP 203`. -/
def programLINE : List ProgramLine := [.step 81, .step 172, .step 203]

/-- `REPEAT k { body }`: `k` copies of the body. -/
def programREPEAT (k : Nat) (body : List ProgramLine) : List ProgramLine :=
  match k with
  | 0 => []
  | j + 1 => body ++ programREPEAT j body

/-- `TILEROW t, r, lo, hi`. -/
def programTILEROW (t r : Nat) (lo hi : Byte) : List ProgramLine :=
  [.vwr (BitVec.ofNat 16 (0x8000 + 16 * t + 2 * r)) lo, .vwr (BitVec.ofNat 16 (0x8000 + 16 * t + 2 * r + 1)) hi]

/-- `SPRITE k, y, x, t, f`. -/
def programSPRITE (k : Nat) (y x t f : Byte) : List ProgramLine :=
  [.owr (BitVec.ofNat 8 (4 * k)) y, .owr (BitVec.ofNat 8 (4 * k + 1)) x, .owr (BitVec.ofNat 8 (4 * k + 2)) t,
   .owr (BitVec.ofNat 8 (4 * k + 3)) f]

end Sys2Proof.Machine
end

