-- ==== Sys2Proof/Safety.lean ====
section
/-! DEFINITION. Safety.lean: the terms the claims are stated in: how an operation ends, what holds of the state between
operations, what a step leaves alone, and a second description of a rendered pixel that names no cache, no buffer and no
order of writes. -/

namespace Sys2Proof

/-! ### Which interface an instruction arrives on -/

/-- The instruction is one of the register bank's: it arrives on the register port (R130). -/
def Instr.onRegisterPort (i : Instr) : Bool :=
  match (encode i).interface with
  | .portR => true
  | .portW => true
  | .vramR => false
  | .vramW => false
  | .oamR => false
  | .oamW => false
  | .step => false
  | .fbR => false

/-- The instruction is a read: it arrives on a port that reads (R90). -/
def Instr.isRead (i : Instr) : Bool :=
  match (encode i).interface with
  | .portR => true
  | .portW => false
  | .vramR => true
  | .vramW => false
  | .oamR => true
  | .oamW => false
  | .step => false
  | .fbR => true

/-- The instruction is a write: it arrives on a port that writes (R90). -/
def Instr.isWrite (i : Instr) : Bool :=
  match (encode i).interface with
  | .portR => false
  | .portW => true
  | .vramR => false
  | .vramW => true
  | .oamR => false
  | .oamW => true
  | .step => false
  | .fbR => false

/-- The instruction is a STEP or STEP_REFUSED (R90). -/
def Instr.isStep (i : Instr) : Bool :=
  match (encode i).interface with
  | .portR => false
  | .portW => false
  | .vramR => false
  | .vramW => false
  | .oamR => false
  | .oamW => false
  | .step => true
  | .fbR => false

end Sys2Proof

namespace Sys2Proof.Machine

/-! ### How an operation ends -/

/-- The next state of an outcome, if it is one. -/
def nextOf (o : Host.Outcome State Fault Refusal) : Option State :=
  match o with
  | .next s => some s
  | .fault _ => none
  | .refused _ => none

/-- The refusal of an outcome, if it is one. -/
def refusalOf (o : Host.Outcome State Fault Refusal) : Option Refusal :=
  match o with
  | .next _ => none
  | .fault _ => none
  | .refused r => some r

/-- An outcome with its next state, if it is one, changed. -/
def mapNext (g : State → State) (o : Host.Outcome State Fault Refusal) : Host.Outcome State Fault Refusal :=
  match o with
  | .next s => .next (g s)
  | .fault r => .fault r
  | .refused r => .refused r

/-! ### What holds between operations -/

/-- R23, R24: `ly` and `counter` in range. -/
def PositionOk (s : State) : Prop := s.ly ≤ 153 ∧ s.counter ≤ 455

/-- R26: on lines 144 to 153 the mode is VBLANK. -/
def VBlankHeld (s : State) : Prop := 144 ≤ s.ly → s.mode = .vBlank

/-- R26, whole: on a visible line the mode is the counter's. It may fail between an LCDC restart and the next Step. -/
def ModeFollows (s : State) : Prop := VBlankHeld s ∧ (s.ly < 144 → s.mode = modeOf s.counter)

/-- R31: a tile that is not dirty is decoded from the current bytes of bank 0. -/
def CacheCoherent (s : State) : Prop := ∀ t : Fin 384, s.dirty[t] = false → s.cache[t] = decodeTile s.vram0 t

/-- R31: the aggregate flag is set whenever a tile's flag is. -/
def FlagsCoherent (s : State) : Prop := s.anyDirty = false → ∀ t : Fin 384, s.dirty[t] = false

/-- R32: every compiled palette is the compilation of its register. -/
def PalettesCompiled (s : State) : Prop :=
  s.palBg = compile s.cfg.baseColours s.reg.bgp ∧ s.palObp0 = compile s.cfg.baseColours s.reg.obp0 ∧
    s.palObp1 = compile s.cfg.baseColours s.reg.obp1

/-- VRAM banks and sprite table in canonical form, every listed byte inside its space (R28, R29). -/
def MemoriesCanonical (s : State) : Prop :=
  s.vram0.wf 8192 = true ∧ s.vram1.wf 8192 = true ∧ s.oam.wf 160 = true

/-- R34, R243: the priority buffer holds raw indices only. -/
def PrioRaw (s : State) : Prop := ∀ x : Fin 160, s.prio[x] ≤ 3

/-- R28, R154: outside extended mode there is no second bank and no bank selected. -/
def SecondBankAbsent (s : State) : Prop := s.cfg.extendedMode = false → s.vram1 = [] ∧ s.reg.vbk = 0

/-- What holds between operations. -/
structure Inv (s : State) : Prop where
  position : PositionOk s
  vblankHeld : VBlankHeld s
  cache : CacheCoherent s
  flags : FlagsCoherent s
  palettes : PalettesCompiled s
  memories : MemoriesCanonical s
  prio : PrioRaw s
  secondBank : SecondBankAbsent s

/-! ### What an operation leaves alone -/

/-- The stored memory bytes of the block: VRAM by bank and offset. -/
def vramByte (s : State) (b : BitVec 1) (off : Nat) : Byte := (vramBank s b).read off

/-- Every parameter, register, VRAM and OAM byte and palette is the same in both states. -/
def SameInputs (s t : State) : Prop :=
  t.cfg = s.cfg ∧ t.reg = s.reg ∧ t.vram0 = s.vram0 ∧ t.vram1 = s.vram1 ∧ t.oam = s.oam ∧ t.palBg = s.palBg ∧
    t.palObp0 = s.palObp0 ∧ t.palObp1 = s.palObp1

/-- The tile cache, frame buffer and scratch are the same in both states. -/
def SamePicture (s t : State) : Prop :=
  t.cache = s.cache ∧ t.dirty = s.dirty ∧ t.anyDirty = s.anyDirty ∧ t.fb = s.fb ∧ t.prio = s.prio ∧
    t.spriteDone = s.spriteDone

/-- Everything but the tile cache with its flags and the per-line scratch is the same in both states: what R35 says the
host can observe, directly or later, with the counter and the compiled palettes. -/
def SameVisible (s t : State) : Prop :=
  SameInputs s t ∧ t.ly = s.ly ∧ t.counter = s.counter ∧ t.mode = s.mode ∧ t.fb = s.fb ∧ t.inbox = s.inbox ∧
    t.results = s.results

/-- The modes that may follow a mode when none is skipped: the order on a line, with V-blank after line 143 (R175, R183). -/
def Mode.successors (m : Mode) : List Mode :=
  match m with
  | .oamScan => [.vramRead]
  | .vramRead => [.hBlank]
  | .hBlank => [.oamScan, .vBlank]
  | .vBlank => [.oamScan]

/-! ### Time -/

/-- The position in the frame, in cycles from line 0, counter 0 (R182). -/
def framePos (s : State) : Nat := 456 * s.ly + s.counter

/-- A `Step` of `n` cycles advances the line (R172). -/
def advances (n : Nat) (s : State) : Bool := decide (456 ≤ s.counter + n)

/-- The line after a `Step` of `n` cycles (R172). -/
def lyAfter (n : Nat) (s : State) : Nat := if advances n s then (s.ly + 1) % 154 else s.ly

/-- The counter after a `Step` of `n` cycles (R172). -/
def counterAfter (n : Nat) (s : State) : Nat := if advances n s then s.counter + n - 456 else s.counter + n

/-- A `Step` of `n` cycles enters V-blank (R173). -/
def entersVBlank (n : Nat) (s : State) : Bool :=
  advances n s && decide (144 ≤ lyAfter n s) && decide (s.mode ≠ .vBlank)

/-- A `Step` of `n` cycles enters the mode `m` of a visible line (R176). -/
def enters (m : Mode) (n : Nat) (s : State) : Bool :=
  decide (lyAfter n s < 144) && decide (modeOf (counterAfter n s) = m) && decide (s.mode ≠ m)

/-- The mode after a `Step` of `n` cycles (R173, R176). -/
def modeAfter (n : Nat) (s : State) : Mode :=
  if lyAfter n s < 144 then modeOf (counterAfter n s) else if advances n s then .vBlank else s.mode

/-- A `Step` of `n` cycles raises the V-blank request: the first row of the table of R308. -/
def raisesVBlank (n : Nat) (s : State) : Bool := entersVBlank n s

/-- A `Step` of `n` cycles raises the STAT request: the four STAT rows of the table of R308, each event with its enable. -/
def raisesStat (n : Nat) (s : State) : Bool :=
  (entersVBlank n s && vblIe s) ||
  (advances n s && decide (lyAfter n s = s.reg.lyc.toNat) && lycIe s) ||
  (enters .oamScan n s && oamIe s) ||
  (enters .hBlank n s && hblIe s)

/-- How many Steps returned `frame_done = true` (R180) among some results. -/
def framesDone (rs : List Result) : Nat :=
  match rs with
  | [] => 0
  | .stepped _ true :: rest => framesDone rest + 1
  | .stepped _ false :: rest => framesDone rest
  | .byte _ :: rest => framesDone rest
  | .frame _ :: rest => framesDone rest

/-! ### A rendered pixel, described without cache, buffer or order of writes -/

/-- The index of a map's pixel, decoded straight from bank 0 (R207). -/
def mapIndex (s : State) (base y x : Nat) : ColourIndex :=
  (decodeTile s.vram0 (bgTile (mapByte s base y x) (tileSel s)))[within8 y][within8 x]

/-- The background's index at column `x` of a line (R226). -/
def bgIndex (s : State) (line x : Nat) : ColourIndex :=
  mapIndex s (mapBase (bgMapHigh s)) ((line + s.reg.scy.toNat) % 256) ((x + s.reg.scx.toNat) % 256)

/-- The window's index at a column it covers (R229). -/
def winIndex (s : State) (line x : Nat) : ColourIndex :=
  mapIndex s (mapBase (winMapHigh s)) (line - s.reg.wy.toNat) (x + 7 - s.reg.wx.toNat)

/-- The tile layer's index at a column: the window's where it is on (LCDC bit 5) and covers, else the background's where
that is on (LCDC bit 0) (R222, R230). -/
def tileIndex (s : State) (line : Nat) (x : Fin 160) : Option ColourIndex :=
  if s.reg.lcdc.getLsbD 5 && windowCovers s line x then some (winIndex s line x.val)
  else if s.reg.lcdc.getLsbD 0 then some (bgIndex s line x.val)
  else none

/-- The priority the sprites test: the tile layer's raw index, 0 where there is none (R223, R227, R230). -/
def tilePrio (s : State) (line : Nat) (x : Fin 160) : Nat :=
  match tileIndex s line x with
  | some ci => ci.toNat
  | none => 0

/-- The index of a sprite at column `c` of its own, decoded straight from bank 0 (R234, R235, R237). -/
def spriteIndex (s : State) (line : Nat) (sp : Sprite) (c : Fin 8) : ColourIndex :=
  (decodeTile s.vram0 (sp.tileOf (spriteHeight s) (sp.row (spriteHeight s) line)))[within8
    (sp.row (spriteHeight s) line)][sp.column c]

/-- The sprite's own column at a screen column, if it reaches there (R238 test 1). -/
def Sprite.columnAt (sp : Sprite) (x : Fin 160) : Option (Fin 8) :=
  if 0 ≤ (x.val : Int) - sp.left ∧ (x.val : Int) - sp.left < 8 then some (within8 ((x.val : Int) - sp.left).toNat) else none

/-- Entry `k` shows its pixel at a column, if no earlier entry does: on the line, reaching the column, not behind a
non-zero tile index, not transparent (R233, R238). -/
def spriteShows (s : State) (line : Nat) (x : Fin 160) (k : Fin 40) : Bool :=
  let sp := spriteAt s.oam k.val
  sp.onLine (spriteHeight s) line &&
    match sp.columnAt x with
    | some c => !(sp.behind && decide (tilePrio s line x ≠ 0)) && decide (spriteIndex s line sp c ≠ 0)
    | none => false

/-- The colour of entry `k` at a column it reaches (R236, R240). -/
def spriteColour (s : State) (line : Nat) (x : Fin 160) (k : Fin 40) : Colour :=
  let sp := spriteAt s.oam k.val
  match sp.columnAt x with
  | some c => paletteColour (spritePalette s sp) (spriteIndex s line sp c)
  | none => Colour.zero

/-- The first entry in table order that shows at a column, if sprites are on (LCDC bit 1) (R239). -/
def winningSprite (s : State) (line : Nat) (x : Fin 160) : Option (Fin 40) :=
  if s.reg.lcdc.getLsbD 1 then (List.finRange 40).find? (spriteShows s line x) else none

/-- The colour of a pixel after its line is rendered with the display on: the winning sprite's, else the tile layer's,
else what was there (R224, R227, R230, R239, R240). -/
def pixelColour (s : State) (line : Fin 144) (x : Fin 160) : Colour :=
  match winningSprite s line.val x with
  | some k => spriteColour s line.val x k
  | none =>
    match tileIndex s line.val x with
    | some ci => paletteColour s.palBg ci
    | none => s.fb[line][x]

end Sys2Proof.Machine
end

