-- ==== Sys2Proof/Certificates/Slice0/Obligations.lean ====
section
/-! DEFINITION. Certificates/Slice0/Obligations.lean: the statements for the provers. Each docstring names the rules of spec/
it formalises, or says what it rests on. A state a statement speaks of is any state, reachable or not, unless a premise
says otherwise; `cfg` stands in the state, so every statement holds for every value of every parameter (00_scope.md R8). -/

open Sys2Proof Sys2Proof.Machine

/-! ### Encoding -/

/-- Decode and encode agree: every well-formed instruction is read back, with every operand, from its transaction and from
its bytes. The bytes are the model's own layout (log entry 8). -/
def Obligations.DecodeReadsBackEveryInstruction : Prop :=
  ∀ i : Instr, i.wf = true →
    decode (encode i) = i ∧ decodeBytes (encode i).interface (encodeBytes i) = .ok i

/-- Every transaction selects a well-formed instruction, and no operand is lost: it is encoded back as it was. -/
def Obligations.EveryTransactionSelectsAnInstruction : Prop :=
  ∀ t : Transaction, (decode t).wf = true ∧ encode (decode t) = t

/-- Bytes that decode on an interface give a well-formed instruction of that interface; except on the step interface, where
a cycle count may carry zero bytes at its top, they are its bytes (the layout is the model's own, log entry 8). -/
def Obligations.DecodedBytesAreTheInstructions : Prop :=
  ∀ (k : Interface) (bs : List Byte) (i : Instr), decodeBytes k bs = .ok i →
    i.wf = true ∧ (encode i).interface = k ∧ (k ≠ .step → encodeBytes i = bs)

/-- No two rows of the opcode table overlap and none is missing: exactly one row covers a transaction, and it is the row of
the instruction the decoder selects. -/
def Obligations.ExactlyOneTableRowCoversATransaction : Prop :=
  ∀ t : Transaction, (opcodeTable.filter fun r => r.covers t).map TableRow.mnemonic = [(decode t).mnemonic]

/-- A few words written out from 30_encoding.md R91 and R92 and the port tables, each family once. -/
def Obligations.WordsWrittenOutDecode : Prop :=
  decode (.portR 0b01000000) = .rdLcdc ∧ decode (.portW 0b01000001 0xFF) = .wrStat 0xFF ∧
    decode (.portR 0b01000110) = .rdUnmapped46 ∧ decode (.portW 0b01011111 0x12) = .wrUnmapped50To5F 0x5F 0x12 ∧
    decode (.vramW 0b1001111111111111 0x05) = .vramWr 0x9FFF 0x05 ∧
    decode (.vramR 0b0111111111111111) = .vramRdOut0000To7FFF 0x7FFF ∧
    decode (.oamW 0b10011111 0x20) = .oamWr80To9F 0x9F 0x20 ∧ decode (.oamR 0b10100000) = .oamRdOutA0ToBF 0xA0 ∧
    decode (.step 456 0xE0) = .step 456 0xE0 ∧ decode (.step 457 0x00) = .stepRefused 457 0x00 ∧ decode .fbR = .frameRd

/-- 30_encoding.md R92, the port map: each port it names selects its register for both formats, and every other value is
unmapped: the read returns the sentinel 0xFF and the write changes nothing. -/
def Obligations.PortMapSelectsByExactValue : Prop :=
  (decode (.portR 0x40) = .rdLcdc ∧ decode (.portR 0x41) = .rdStat ∧ decode (.portR 0x42) = .rdScy ∧
    decode (.portR 0x43) = .rdScx ∧ decode (.portR 0x44) = .rdLy ∧ decode (.portR 0x45) = .rdLyc ∧
    decode (.portR 0x47) = .rdBgp ∧ decode (.portR 0x48) = .rdObp0 ∧ decode (.portR 0x49) = .rdObp1 ∧
    decode (.portR 0x4A) = .rdWy ∧ decode (.portR 0x4B) = .rdWx ∧ decode (.portR 0x4F) = .rdVbk) ∧
  (∀ d : Byte, decode (.portW 0x40 d) = .wrLcdc d ∧ decode (.portW 0x41 d) = .wrStat d ∧
    decode (.portW 0x42 d) = .wrScy d ∧ decode (.portW 0x43 d) = .wrScx d ∧ decode (.portW 0x44 d) = .wrLy d ∧
    decode (.portW 0x45 d) = .wrLyc d ∧ decode (.portW 0x47 d) = .wrBgp d ∧ decode (.portW 0x48 d) = .wrObp0 d ∧
    decode (.portW 0x49 d) = .wrObp1 d ∧ decode (.portW 0x4A d) = .wrWy d ∧ decode (.portW 0x4B d) = .wrWx d ∧
    decode (.portW 0x4F d) = .wrVbk d) ∧
  (∀ (p d : Byte) (s : State),
    p ∉ [0x40, 0x41, 0x42, 0x43, 0x44, 0x45, 0x47, 0x48, 0x49, 0x4A, 0x4B, (0x4F : Byte)] →
    exec (decode (.portR p)) s = .next (s.emit (.byte 0xFF)) ∧ exec (decode (.portW p d)) s = .next s)

/-- 30_encoding.md R91 for addresses and offsets: the window is `a[15:13] = 0b100` with bank offset `a[12:0]`; the sprite
table is `o <= 159`, and the decoder selects the window and table instructions exactly there. -/
def Obligations.WindowAndTableAreDecodedByTheirBits : Prop :=
  (∀ a : Addr, (a.extractLsb' 13 3 = 0b100 → decode (.vramR a) = .vramRd a ∧ (∀ d, decode (.vramW a d) = .vramWr a d) ∧
      vramOffset a = (a.extractLsb' 0 13).toNat) ∧
    (a.extractLsb' 13 3 ≠ 0b100 → decode (.vramR a) ≠ .vramRd a ∧ ∀ d, decode (.vramW a d) ≠ .vramWr a d)) ∧
  (∀ o : Byte, (decode (.oamR o) = .oamRd00To7F o ∨ decode (.oamR o) = .oamRd80To9F o ↔ o.toNat ≤ 159) ∧
    ∀ d, (decode (.oamW o d) = .oamWr00To7F o d ∨ decode (.oamW o d) = .oamWr80To9F o d ↔ o.toNat ≤ 159))

/-! ### The machine -/

/-- A step runs the decoded instruction: when the oldest waiting transaction is an instruction's, the step is `exec` of that
instruction at the state without it; with none waiting nothing happens. The inbox is the model's own (log entry 5). -/
def Obligations.StepRunsTheOldestTransaction : Prop :=
  (∀ (i : Instr) (s : State) (ts : List Transaction), i.wf = true → s.inbox = encode i :: ts →
    step s = exec i { s with inbox := ts }) ∧
  (∀ (s : State) (t : Transaction) (ts : List Transaction), s.inbox = t :: ts →
    step s = exec (decode t) { s with inbox := ts }) ∧
  (∀ s : State, s.inbox = [] → step s = .next s)

/-- Every operation but a `Step` over 456 cycles ends normally, from every state (60_exceptions.md R304, R305, R306). -/
def Obligations.EveryOtherOperationCompletes : Prop :=
  ∀ (i : Instr) (s : State), i.wf = true → (∀ n f, i ≠ .stepRefused n f) → ∃ t, exec i s = .next t

/-- The configuration never changes (00_scope.md R8, 10_state.md R20), and no operation touches the transactions still to
run; an operation records at most one result, in front of the earlier ones (log entries 1, 5 and 6). -/
def Obligations.ParametersNeverChange : Prop :=
  ∀ (i : Instr) (s t : State), exec i s = .next t →
    t.cfg = s.cfg ∧ t.inbox = s.inbox ∧ ∃ rs, t.results = rs ++ s.results ∧ rs.length ≤ 1

/-- The reset values, for every choice of the parameters: the table of 10_state.md R36 and the STAT value after reset. That
`inbox` and `results` are empty is the model's choice (log entries 5 and 6). -/
def Obligations.ResetLeavesTheTable : Prop :=
  ∀ c : Config,
    let s := State.resetWith c
    s.cfg = c ∧ s.reg.lcdc = 0x00 ∧ s.reg.statEn = 0b0000 ∧ s.reg.scy = 0x00 ∧ s.reg.scx = 0x00 ∧ s.reg.lyc = 0x00 ∧
    s.reg.bgp = 0x00 ∧ s.reg.obp0 = 0x00 ∧ s.reg.obp1 = 0x00 ∧ s.reg.wy = 0x00 ∧ s.reg.wx = 0x00 ∧ s.reg.vbk = 0 ∧
    s.ly = 0 ∧ s.counter = 0 ∧ s.mode = .oamScan ∧
    (∀ a : Nat, s.vram0.read a = 0x00 ∧ s.vram1.read a = 0x00 ∧ s.oam.read a = 0x00) ∧
    (∀ (t : Fin 384) (r k : Fin 8), s.cache[t][r][k] = 0) ∧ (∀ t : Fin 384, s.dirty[t] = false) ∧ s.anyDirty = false ∧
    (∀ k : Fin 4, s.palBg[k] = c.baseColours[0] ∧ s.palObp0[k] = c.baseColours[0] ∧ s.palObp1[k] = c.baseColours[0]) ∧
    (∀ (y : Fin 144) (x : Fin 160), s.fb[y][x].r = 0x00 ∧ s.fb[y][x].g = 0x00 ∧ s.fb[y][x].b = 0x00 ∧ s.fb[y][x].a = 0x00) ∧
    (∀ x : Fin 160, s.prio[x] = 0 ∧ s.spriteDone[x] = false) ∧
    s.inbox = [] ∧ s.results = [] ∧
    exec .rdStat s = .next (s.emit (.byte (c.statBit7 ++ (0b0000 : BitVec 4) ++ (1 : BitVec 1) ++ (0b10 : BitVec 2)))) ∧
    State.reset = State.resetWith Config.powerOn

/-- The invariant holds right after reset, for every choice of the parameters, and so does 10_state.md R26 whole. The
canonical form and the absent second bank, two clauses of `Inv`, are the model's own (log entries 14 and 12). -/
def Obligations.ResetMeetsTheInvariant : Prop :=
  ∀ c : Config, Inv (State.resetWith c) ∧ ModeFollows (State.resetWith c)

/-- Every step keeps the invariant (10_state.md R23, R24, R26 first clause, R31, R32, 41_mode_state_machine.md R181,
43_scanline_renderer.md R243): line and counter in range, V-blank held on lines 144 to 153, clean tiles decoded from the
current bytes, compiled palettes those of their registers, memories canonical, raw priorities only. The canonical form and
the absent second bank are the model's own (log entries 12 and 14). -/
def Obligations.EveryStepKeepsTheInvariant : Prop :=
  ∀ s t : State, Inv s → step s = .next t → Inv t

/-- Each piece of state changes only by the operations 10_state.md names for it (R21, R22, R23, R24, R25, R28, R29, R30,
R32, R33, R34). -/
def Obligations.EachFieldChangesOnlyByItsWriters : Prop :=
  ∀ (i : Instr) (s t : State), exec i s = .next t →
    (t.ly ≠ s.ly ∨ t.counter ≠ s.counter → i.isStep = true ∨ ∃ d, i = .wrLcdc d) ∧
    (t.mode ≠ s.mode → i.isStep = true) ∧
    (t.reg ≠ s.reg → ∃ p d, encode i = .portW p d) ∧
    (t.vram0 ≠ s.vram0 ∨ t.vram1 ≠ s.vram1 → ∃ a d, encode i = .vramW a d) ∧
    (t.oam ≠ s.oam → ∃ o d, encode i = .oamW o d) ∧
    (t.cache ≠ s.cache → i.isStep = true) ∧
    (t.dirty ≠ s.dirty ∨ t.anyDirty ≠ s.anyDirty → i.isStep = true ∨ ∃ a d, encode i = .vramW a d) ∧
    (t.palBg ≠ s.palBg → ∃ d, i = .wrBgp d) ∧ (t.palObp0 ≠ s.palObp0 → ∃ d, i = .wrObp0 d) ∧
    (t.palObp1 ≠ s.palObp1 → ∃ d, i = .wrObp1 d) ∧
    (t.fb ≠ s.fb ∨ t.prio ≠ s.prio ∨ t.spriteDone ≠ s.spriteDone → i.isStep = true ∧ s.reg.lcdc.getLsbD 7 = true)

/-- Reads have no side effects and repeat (20_memory.md R67): a read gives one result back, changes nothing else, and gives
the same result again. Recording the result is the model's way to give it (log entry 6). -/
def Obligations.ReadsChangeNothing : Prop :=
  ∀ (i : Instr) (s : State), i.isRead = true →
    ∃ r : Result, ∀ rs : List Result, exec i { s with results := rs } = .next { s with results := r :: rs }

/-- Every write is idempotent (20_memory.md R68, last sentence): the same write again leaves the state as it is. -/
def Obligations.WritesAreIdempotent : Prop :=
  ∀ (i : Instr) (s : State), MemoriesCanonical s → i.isWrite = true →
    ∃ t, exec i s = .next t ∧ t.results = s.results ∧ exec i t = .next t

/-! ### Register bank -/

/-- 40_register_bank.md R131, R135, R137, R141, R143, R145, R147, R149, R151: these registers read back as stored, and as
last written. -/
def Obligations.StoredRegistersReadBack : Prop :=
  ∀ (s : State) (d : Byte),
    exec .rdLcdc s = .next (s.emit (.byte s.reg.lcdc)) ∧ exec .rdScy s = .next (s.emit (.byte s.reg.scy)) ∧
    exec .rdScx s = .next (s.emit (.byte s.reg.scx)) ∧ exec .rdLyc s = .next (s.emit (.byte s.reg.lyc)) ∧
    exec .rdBgp s = .next (s.emit (.byte s.reg.bgp)) ∧ exec .rdObp0 s = .next (s.emit (.byte s.reg.obp0)) ∧
    exec .rdObp1 s = .next (s.emit (.byte s.reg.obp1)) ∧ exec .rdWy s = .next (s.emit (.byte s.reg.wy)) ∧
    exec .rdWx s = .next (s.emit (.byte s.reg.wx)) ∧
    (∀ p ∈ [0x40, 0x42, 0x43, 0x45, 0x47, 0x48, 0x49, 0x4A, (0x4B : Byte)], ∃ t, exec (decode (.portW p d)) s = .next t ∧
      exec (decode (.portR p)) t = .next (t.emit (.byte d)))

/-- 40_register_bank.md R133 with 30_encoding.md R98: STAT is composed at the time of the read. -/
def Obligations.StatReadIsComposed : Prop :=
  ∀ s : State,
    exec .rdStat s = .next (s.emit (.byte (s.cfg.statBit7 ++ s.reg.statEn ++
      (if s.ly = s.reg.lyc.toNat then (1 : BitVec 1) else 0) ++
      (match s.mode with
        | .hBlank => (0b00 : BitVec 2)
        | .vBlank => 0b01
        | .oamScan => 0b10
        | .vramRead => 0b11)))) ∧
    (s.ly ≤ 153 → 154 ≤ s.reg.lyc.toNat →
      ∃ d : Byte, exec .rdStat s = .next (s.emit (.byte d)) ∧ d.getLsbD 2 = false)

/-- 40_register_bank.md R139 and R140: LY reads as the line number, is not writable, and changes by a `Step` or an LCDC write
only. -/
def Obligations.LyReadsAsTheLineAndIgnoresWrites : Prop :=
  ∀ (s : State) (w : Byte), exec (.wrLy w) s = .next s ∧
    (s.ly ≤ 153 → ∃ d : Byte, exec .rdLy s = .next (s.emit (.byte d)) ∧ d.toNat = s.ly) ∧
    (∀ (i : Instr) (t : State), exec i s = .next t → t.ly ≠ s.ly → i.isStep = true ∨ ∃ d, i = .wrLcdc d)

/-- 40_register_bank.md R153 and R154: the bank select reads and stores in extended mode only, and no render looks at it. -/
def Obligations.BankSelectWorksInExtendedModeOnly : Prop :=
  ∀ (s : State) (d : Byte),
    (s.cfg.extendedMode = true →
      exec .rdVbk s = .next (s.emit (.byte ((0b1111111 : BitVec 7) ++ s.reg.vbk))) ∧
      exec (.wrVbk d) s = .next { s with reg := { s.reg with vbk := BitVec.ofBool (d.getLsbD 0) } }) ∧
    (s.cfg.extendedMode = false → exec .rdVbk s = .next (s.emit (.byte 0xFF)) ∧ exec (.wrVbk d) s = .next s) ∧
    (∀ (line : Fin 144) (b : BitVec 1), render line { s with reg := { s.reg with vbk := b } } =
      (render line s).map fun t => { t with reg := { t.reg with vbk := b } })

/-- 40_register_bank.md R132: an LCDC write stores the byte; bit 7 going from 0 to 1, and only that, restarts the line and
the counter; nothing else changes. After a restart the next `Step` takes the mode of the counter and runs its entry action
if the mode changes (corner case 4, 70_reset_and_hazards.md R338). -/
def Obligations.LcdcWriteStoresAndRestarts : Prop :=
  ∀ (s : State) (d : Byte),
    (s.reg.lcdc.getLsbD 7 = false → d.getLsbD 7 = true →
      exec (.wrLcdc d) s =
        .next { s with reg := { s.reg with lcdc := d }, ly := 0, counter := s.cfg.lcdEnableCycleOffset.val }) ∧
    (s.reg.lcdc.getLsbD 7 = true ∨ d.getLsbD 7 = false →
      exec (.wrLcdc d) s = .next { s with reg := { s.reg with lcdc := d } }) ∧
    (∀ (n : Nat) (f : Byte), s.reg.lcdc.getLsbD 7 = false → d.getLsbD 7 = true →
      s.cfg.lcdEnableCycleOffset.val + n ≤ 455 →
      ∃ u t f', exec (.wrLcdc d) s = .next u ∧ u.mode = s.mode ∧ exec (.step n f) u = .next t ∧ t.ly = 0 ∧
        t.counter = s.cfg.lcdEnableCycleOffset.val + n ∧ t.mode = modeOf (s.cfg.lcdEnableCycleOffset.val + n) ∧
        t.results = .stepped f' false :: s.results ∧
        (f'.getLsbD 1 = true ↔ f.getLsbD 1 = true ∨ (t.mode ≠ s.mode ∧
          ((t.mode = .oamScan ∧ s.reg.statEn.getLsbD 2 = true) ∨ (t.mode = .hBlank ∧ s.reg.statEn.getLsbD 0 = true)))))

/-- 40_register_bank.md R134: a STAT write stores bits 6 to 3 as the enables and nothing else. -/
def Obligations.StatWriteStoresTheEnables : Prop :=
  ∀ (s : State) (d : Byte), ∃ e : BitVec 4, exec (.wrStat d) s = .next { s with reg := { s.reg with statEn := e } } ∧
    e.getLsbD 3 = d.getLsbD 6 ∧ e.getLsbD 2 = d.getLsbD 5 ∧ e.getLsbD 1 = d.getLsbD 4 ∧ e.getLsbD 0 = d.getLsbD 3

/-- 40_register_bank.md R136, R138, R142, R150, R152: these writes store the byte and change nothing else: no request, no
render; the coincidence bit of the next STAT read follows a new LYC. -/
def Obligations.PlainRegisterWritesStore : Prop :=
  ∀ (s : State) (d : Byte),
    exec (.wrScy d) s = .next { s with reg := { s.reg with scy := d } } ∧
    exec (.wrScx d) s = .next { s with reg := { s.reg with scx := d } } ∧
    exec (.wrLyc d) s = .next { s with reg := { s.reg with lyc := d } } ∧
    exec (.wrWy d) s = .next { s with reg := { s.reg with wy := d } } ∧
    exec (.wrWx d) s = .next { s with reg := { s.reg with wx := d } } ∧
    (∃ u b, exec (.wrLyc d) s = .next u ∧ exec .rdStat u = .next (u.emit (.byte b)) ∧
      b.getLsbD 2 = decide (s.ly = d.toNat))

/-- 40_register_bank.md R144, R146, R148: a palette write stores the byte and recompiles that palette at once, each slot the
base colour of its two bits, and nothing else changes. -/
def Obligations.PaletteWritesRecompile : Prop :=
  ∀ (s : State) (d : Byte), ∃ p : Palette, (∀ k : Fin 4, p[k] = s.cfg.baseColours[(d.toNat / 4 ^ k.val) % 4]) ∧
    exec (.wrBgp d) s = .next { s with reg := { s.reg with bgp := d }, palBg := p } ∧
    exec (.wrObp0 d) s = .next { s with reg := { s.reg with obp0 := d }, palObp0 := p } ∧
    exec (.wrObp1 d) s = .next { s with reg := { s.reg with obp1 := d }, palObp1 := p }

/-- 40_register_bank.md R155 and R156: an unmapped port reads 0xFF and ignores writes; every instruction of the eight
ranges does so, with any operand. -/
def Obligations.UnmappedPortsReadOnesAndIgnoreWrites : Prop :=
  ∀ (s : State) (p d : Byte),
    (exec (.rdUnmapped00To3F p) s = .next (s.emit (.byte 0xFF)) ∧ exec .rdUnmapped46 s = .next (s.emit (.byte 0xFF)) ∧
      exec .rdUnmapped4C s = .next (s.emit (.byte 0xFF)) ∧ exec .rdUnmapped4D s = .next (s.emit (.byte 0xFF)) ∧
      exec .rdUnmapped4E s = .next (s.emit (.byte 0xFF)) ∧ exec (.rdUnmapped50To5F p) s = .next (s.emit (.byte 0xFF)) ∧
      exec (.rdUnmapped60To7F p) s = .next (s.emit (.byte 0xFF)) ∧
      exec (.rdUnmapped80ToFF p) s = .next (s.emit (.byte 0xFF))) ∧
    (exec (.wrUnmapped00To3F p d) s = .next s ∧ exec (.wrUnmapped46 d) s = .next s ∧
      exec (.wrUnmapped4C d) s = .next s ∧ exec (.wrUnmapped4D d) s = .next s ∧ exec (.wrUnmapped4E d) s = .next s ∧
      exec (.wrUnmapped50To5F p d) s = .next s ∧ exec (.wrUnmapped60To7F p d) s = .next s ∧
      exec (.wrUnmapped80ToFF p d) s = .next s) ∧
    (p.toNat ≤ 0x3F ∨ p = 0x46 ∨ (0x4C ≤ p.toNat ∧ p.toNat ≤ 0x4E) ∨ 0x50 ≤ p.toNat →
      exec (decode (.portR p)) s = .next (s.emit (.byte 0xFF)) ∧ exec (decode (.portW p d)) s = .next s)

/-- The register bank as a whole (40_register_bank.md R157): every register operation ends normally, renders nothing, keeps
the mode, VRAM and OAM, and answers no IF byte: a read answers one byte and a write nothing. -/
def Obligations.RegisterOperationsTouchNoPicture : Prop :=
  ∀ (i : Instr) (s : State), i.onRegisterPort = true →
    ∃ t, exec i s = .next t ∧ SamePicture s t ∧ t.mode = s.mode ∧ t.vram0 = s.vram0 ∧ t.vram1 = s.vram1 ∧ t.oam = s.oam ∧
      (t.results = s.results ∨ ∃ b, t.results = .byte b :: s.results)

/-! ### VRAM, OAM and frame-buffer ports -/

/-- 45_memory_ports.md R270 with 20_memory.md R61: a window read returns the stored byte of the selected bank, and a read
anywhere else 0xFF; nothing changes. -/
def Obligations.VramReadReturnsTheStoredByte : Prop :=
  ∀ (s : State) (a : Addr),
    (0x8000 ≤ a.toNat → a.toNat ≤ 0x9FFF →
      exec (.vramRd a) s =
        .next (s.emit (.byte (vramByte s (if s.cfg.extendedMode then s.reg.vbk else 0) (a.toNat - 0x8000))))) ∧
    (a.toNat < 0x8000 ∨ 0x9FFF < a.toNat → exec (decode (.vramR a)) s = .next (s.emit (.byte 0xFF)))

/-- 45_memory_ports.md R271 with 42_tile_cache.md R204: a window write stores the byte in the selected bank and marks its tile
and the aggregate flag when it lies in bank-0 tile data; every other byte, every other flag and all other state is as
before. A write outside the window changes nothing. -/
def Obligations.VramWriteStoresAndMarksItsTile : Prop :=
  ∀ (s : State) (a : Addr) (d : Byte), MemoriesCanonical s →
    (0x8000 ≤ a.toNat → a.toNat ≤ 0x9FFF →
      let bank : BitVec 1 := if s.cfg.extendedMode then s.reg.vbk else 0
      let off := a.toNat - 0x8000
      ∃ t, exec (.vramWr a d) s = .next t ∧
        (∀ (b : BitVec 1) (k : Nat), vramByte t b k = if b = bank ∧ k = off then d else vramByte s b k) ∧
        (∀ u : Fin 384, t.dirty[u] = true ↔ s.dirty[u] = true ∨ (bank = 0 ∧ off ≤ 0x17FF ∧ u.val = off / 16)) ∧
        (t.anyDirty = true ↔ s.anyDirty = true ∨ (bank = 0 ∧ off ≤ 0x17FF)) ∧
        t = { s with vram0 := t.vram0, vram1 := t.vram1, dirty := t.dirty, anyDirty := t.anyDirty }) ∧
    (a.toNat < 0x8000 ∨ 0x9FFF < a.toNat → exec (decode (.vramW a d)) s = .next s)

/-- 45_memory_ports.md R274: a read inside the sprite table returns the stored byte, past it 0xFF. -/
def Obligations.OamReadReturnsTheStoredByte : Prop :=
  ∀ (s : State) (o : Byte),
    (o.toNat ≤ 0x7F → exec (.oamRd00To7F o) s = .next (s.emit (.byte (s.oam.read o.toNat)))) ∧
    (0x80 ≤ o.toNat → o.toNat ≤ 159 → exec (.oamRd80To9F o) s = .next (s.emit (.byte (s.oam.read o.toNat)))) ∧
    (160 ≤ o.toNat → exec (decode (.oamR o)) s = .next (s.emit (.byte 0xFF)))

/-- 45_memory_ports.md R275: a write inside the sprite table stores the byte; every other byte and all other state is as
before; past the table nothing changes. -/
def Obligations.OamWriteStoresTheByte : Prop :=
  ∀ (s : State) (o d : Byte), MemoriesCanonical s →
    (o.toNat ≤ 0x7F → ∃ t, exec (.oamWr00To7F o d) s = .next t ∧ t = { s with oam := t.oam } ∧
      ∀ k : Nat, t.oam.read k = if k = o.toNat then d else s.oam.read k) ∧
    (0x80 ≤ o.toNat → o.toNat ≤ 159 → ∃ t, exec (.oamWr80To9F o d) s = .next t ∧ t = { s with oam := t.oam } ∧
      ∀ k : Nat, t.oam.read k = if k = o.toNat then d else s.oam.read k) ∧
    (160 ≤ o.toNat → exec (decode (.oamW o d)) s = .next s)

/-- 45_memory_ports.md R272, R273, R276 and R277: outside the window and past the sprite table a read returns 0xFF and a
write changes nothing; every instruction of the five ranges does so. -/
def Obligations.AccessesOutsideReadOnesAndStoreNothing : Prop :=
  ∀ (s : State) (a : Addr) (o d : Byte),
    (exec (.vramRdOut0000To7FFF a) s = .next (s.emit (.byte 0xFF)) ∧
      exec (.vramRdOutA000ToBFFF a) s = .next (s.emit (.byte 0xFF)) ∧
      exec (.vramRdOutC000ToFFFF a) s = .next (s.emit (.byte 0xFF)) ∧
      exec (.vramWrOut0000To7FFF a d) s = .next s ∧ exec (.vramWrOutA000ToBFFF a d) s = .next s ∧
      exec (.vramWrOutC000ToFFFF a d) s = .next s) ∧
    (a.toNat < 0x8000 ∨ 0x9FFF < a.toNat →
      exec (decode (.vramR a)) s = .next (s.emit (.byte 0xFF)) ∧ exec (decode (.vramW a d)) s = .next s) ∧
    (exec (.oamRdOutA0ToBF o) s = .next (s.emit (.byte 0xFF)) ∧ exec (.oamRdOutC0ToFF o) s = .next (s.emit (.byte 0xFF)) ∧
      exec (.oamWrOutA0ToBF o d) s = .next s ∧ exec (.oamWrOutC0ToFF o d) s = .next s) ∧
    (160 ≤ o.toNat → exec (decode (.oamR o)) s = .next (s.emit (.byte 0xFF)) ∧ exec (decode (.oamW o d)) s = .next s)

/-- 45_memory_ports.md R278 with 30_encoding.md R106: the frame read returns the 92160 bytes of the frame buffer, row-major,
four bytes a pixel in the order R, G, B, A; nothing changes. -/
def Obligations.FrameReadReturnsTheSurface : Prop :=
  ∀ s : State, ∃ bytes : List Byte, exec .frameRd s = .next (s.emit (.frame bytes)) ∧ bytes.length = 92160 ∧
    ∀ (y : Fin 144) (x : Fin 160),
      bytes[4 * (160 * y.val + x.val)]? = some s.fb[y][x].r ∧ bytes[4 * (160 * y.val + x.val) + 1]? = some s.fb[y][x].g ∧
      bytes[4 * (160 * y.val + x.val) + 2]? = some s.fb[y][x].b ∧ bytes[4 * (160 * y.val + x.val) + 3]? = some s.fb[y][x].a

/-- No access is blocked (45_memory_ports.md R279): a register, VRAM, OAM or frame access does the same in every mode and at
every line, but for the reads that show the mode or the line and the LCDC write that may set the line. -/
def Obligations.AccessesIgnoreModeAndLine : Prop :=
  ∀ (i : Instr) (s : State) (m : Mode) (l : Nat), i.isStep = false → i ≠ .rdStat →
    exec i { s with mode := m } = mapNext (fun t => { t with mode := m }) (exec i s) ∧
    (i ≠ .rdLy → (∀ d, i ≠ .wrLcdc d) →
      exec i { s with ly := l } = mapNext (fun t => { t with ly := l }) (exec i s))

/-! ### Step -/

/-- 41_mode_state_machine.md R170: a `Step` over 456 cycles is refused, whatever the state; any other ends normally. -/
def Obligations.StepTooLongIsRefused : Prop :=
  ∀ (s : State) (n : Nat) (f : Byte),
    (456 < n → exec (.stepRefused n f) s = .refused .stepTooLong ∧ exec (decode (.step n f)) s = .refused .stepTooLong) ∧
    (n ≤ 456 → ∃ t, exec (.step n f) s = .next t ∧ exec (decode (.step n f)) s = .next t)

/-- 60_exceptions.md R305: of the well-formed instructions exactly the `Step` over 456 cycles is refused; and a refusal is
final: it ends the run it happens in, whatever operations follow. What a run of operations, with any operands and any IF
bytes, is observed to give (70_reset_and_hazards.md R347): if it ends normally, its results and its final state; if it then
meets the refusal, the same results, the refusal as the last one, and no final state. The same of the programs of
30_encoding.md R110. -/
def Obligations.OnlyTheLongStepIsRefused : Prop :=
  (∀ (i : Instr) (s : State) (r : Refusal), i.wf = true →
    (exec i s = .refused r ↔ r = .stepTooLong ∧ ∃ n f, 456 < n ∧ i = .stepRefused n f)) ∧
  (∀ (s s' : State) (ts : List Transaction), runOperations s ts = (s', none) →
    observeOperations s ts = { sequence := s'.results.reverse.map .result, final := some s' } ∧
    ∀ (n : Nat) (f : Byte) (rest : List Transaction), 456 < n →
      runOperations s (ts ++ .step n f :: rest) = (s', some (.refused .stepTooLong)) ∧
      observeOperations s (ts ++ .step n f :: rest) =
        { sequence := s'.results.reverse.map .result ++ [.refused .stepTooLong], final := none }) ∧
  (∀ (h : HostRun) (n : Nat) (rest : List ProgramLine), 456 < n →
    runProgram h (.step n :: rest) = .refused .stepTooLong) ∧
  (∀ (h h' : HostRun) (ls : List ProgramLine), runProgram h ls = .next h' →
    observe h ls = { sequence := h'.st.results.reverse.map .result, final := some h'.st } ∧
    ∀ (n : Nat) (rest : List ProgramLine), 456 < n →
      observe h (ls ++ .step n :: rest) =
        { sequence := h'.st.results.reverse.map .result ++ [.refused .stepTooLong], final := none })

/-- The fatal fault is unreachable (60_exceptions.md R304), from every state, reachable or not. -/
def Obligations.NoOperationFaults : Prop :=
  ∀ (i : Instr) (s : State) (r : Fault), exec i s ≠ .fault r ∧ step s ≠ .fault r

/-- 41_mode_state_machine.md R172: the line advance. -/
def Obligations.StepMovesThePosition : Prop :=
  ∀ (s : State) (n : Nat) (f : Byte), n ≤ 456 → ∃ t, exec (.step n f) s = .next t ∧
    (456 ≤ s.counter + n → t.counter = s.counter + n - 456 ∧ t.ly = (s.ly + 1) % 154) ∧
    (s.counter + n < 456 → t.counter = s.counter + n ∧ t.ly = s.ly)

/-- 41_mode_state_machine.md R175: on a visible line the counter selects the mode, thresholds inclusive. -/
def Obligations.StepTakesTheModeOfTheCounter : Prop :=
  ∀ (s : State) (n : Nat) (f : Byte), n ≤ 456 → ∃ t, exec (.step n f) s = .next t ∧
    (t.ly < 144 → (t.counter ≤ 80 → t.mode = .oamScan) ∧ (81 ≤ t.counter → t.counter ≤ 252 → t.mode = .vramRead) ∧
      (253 ≤ t.counter → t.mode = .hBlank))

/-- 41_mode_state_machine.md R173 and R180: the `Step` that advances to a line of 144 or more outside V-blank enters V-blank:
it raises bit 0, and bit 1 if `VBL_IE` is set or the line coincides with `LYC_IE` set, signals the frame and renders
nothing; every other `Step` signals none, and one that ends on lines 144 to 153 keeps the mode. -/
def Obligations.VBlankEntrySignalsTheFrame : Prop :=
  ∀ (s : State) (n : Nat) (f : Byte), n ≤ 456 →
    (456 ≤ s.counter + n → 144 ≤ (s.ly + 1) % 154 → s.mode ≠ .vBlank →
      exec (.step n f) s = .next { s with
        ly := (s.ly + 1) % 154, counter := s.counter + n - 456, mode := .vBlank
        results := .stepped (f ||| 0x01 |||
          (if s.reg.statEn.getLsbD 1 = true ∨ ((s.ly + 1) % 154 = s.reg.lyc.toNat ∧ s.reg.statEn.getLsbD 3 = true)
            then 0x02 else 0x00)) true :: s.results } ∧
      (VBlankHeld s → s.ly ≤ 153 → s.ly = 143)) ∧
    (¬ (456 ≤ s.counter + n ∧ 144 ≤ (s.ly + 1) % 154 ∧ s.mode ≠ .vBlank) →
      ∃ t f', exec (.step n f) s = .next t ∧ t.results = .stepped f' false :: s.results ∧
        (144 ≤ t.ly → t.mode = s.mode ∧ t.fb = s.fb))

/-- 60_exceptions.md R308 with 30_encoding.md R100: the IF byte a `Step` returns is the one it was given with bit 0 raised by
V-blank entry and bit 1 by any of the four STAT sources, each with its enable; no other bit changes and none is cleared.
`raisesVBlank` and `raisesStat` are the rows of the table of R308. -/
def Obligations.StepRaisesTheRequestsOfTheTable : Prop :=
  ∀ (s : State) (n : Nat) (f : Byte), n ≤ 456 → ∃ t f' fd, exec (.step n f) s = .next t ∧
    t.results = .stepped f' fd :: s.results ∧
    f'.getLsbD 0 = (f.getLsbD 0 || raisesVBlank n s) ∧ f'.getLsbD 1 = (f.getLsbD 1 || raisesStat n s) ∧
    ∀ k : Nat, 2 ≤ k → f'.getLsbD k = f.getLsbD k

/-- 41_mode_state_machine.md R179: a `Step` that enters H-blank sets bit 1 if `HBL_IE` is set and renders the current line in
the state it has reached. -/
def Obligations.HBlankEntryRendersTheLine : Prop :=
  ∀ (s : State) (n : Nat) (f : Byte) (line : Fin 144), n ≤ 456 → lyAfter n s = line.val → 253 ≤ counterAfter n s →
    s.mode ≠ .hBlank →
    ∃ u f', render line { s with ly := line.val, counter := counterAfter n s, mode := .hBlank } = .ok u ∧
      exec (.step n f) s = .next { u with results := .stepped f' false :: s.results } ∧
      (s.reg.statEn.getLsbD 0 = true → f'.getLsbD 1 = true)

/-- A `Step` renders on entry to H-blank and never else (41_mode_state_machine.md R176 to R179), and what it leaves alone: the
parameters, registers, VRAM, OAM, palettes, earlier results and waiting transactions always; the cache, the frame buffer
and the scratch unless it enters H-blank with the display on; and every row but the current one even then. -/
def Obligations.StepLeavesTheRestAlone : Prop :=
  ∀ (s : State) (n : Nat) (f : Byte), n ≤ 456 → ∃ t f' fd, exec (.step n f) s = .next t ∧ SameInputs s t ∧
    t.inbox = s.inbox ∧ t.results = .stepped f' fd :: s.results ∧
    (¬ (enters .hBlank n s = true ∧ s.reg.lcdc.getLsbD 7 = true) → SamePicture s t) ∧
    (∀ y : Fin 144, y.val ≠ t.ly → t.fb[y] = s.fb[y])

/-- 41_mode_state_machine.md R186: LCDC does not gate `Step`. Whatever is stored in LCDC, the position, the mode and the
returned values are the same, and with the display off the picture stays as it is. -/
def Obligations.LcdcDoesNotGateStep : Prop :=
  ∀ (s : State) (n : Nat) (f d : Byte), n ≤ 456 → ∃ t u, exec (.step n f) s = .next t ∧
    exec (.step n f) { s with reg := { s.reg with lcdc := d } } = .next u ∧
    u.ly = t.ly ∧ u.counter = t.counter ∧ u.mode = t.mode ∧ u.results = t.results ∧
    (d.getLsbD 7 = false → SamePicture s u)

/-- After every `Step` that is not refused the mode follows the position (10_state.md R26), from every state with V-blank held
on lines 144 to 153. -/
def Obligations.StepRestoresTheMode : Prop :=
  ∀ (s : State) (n : Nat) (f : Byte), VBlankHeld s → n ≤ 456 → ∃ t, exec (.step n f) s = .next t ∧ ModeFollows t

/-- A `Step` advances the position in the frame by its cycles, modulo the frame (41_mode_state_machine.md R181, R182). -/
def Obligations.StepAdvancesTheFramePosition : Prop :=
  ∀ (s : State) (n : Nat) (f : Byte), PositionOk s → n ≤ 456 → ∃ t, exec (.step n f) s = .next t ∧ PositionOk t ∧
    framePos t = (framePos s + n) % 70224

/-- No skipped mode (41_mode_state_machine.md R183): a `Step` of at most 81 cycles keeps the mode or takes the next one of the
line's order, and every line advance leaves H-blank or stays in V-blank. -/
def Obligations.ShortStepsSkipNoMode : Prop :=
  ∀ (s : State) (n : Nat) (f : Byte), PositionOk s → ModeFollows s → n ≤ 81 → ∃ t, exec (.step n f) s = .next t ∧
    (t.mode = s.mode ∨ t.mode ∈ s.mode.successors) ∧ (t.ly ≠ s.ly → s.mode = .hBlank ∨ s.mode = .vBlank)

/-- The period (41_mode_state_machine.md R187): any division of one frame's 70224 cycles into steps of at most 456, from a
state meeting 10_state.md R26, ends at the line, counter and mode it began at, signals exactly one frame and leaves the
V-blank request set. -/
def Obligations.AFrameOfStepsReturnsToItsLine : Prop :=
  ∀ (h : HostRun) (ns : List Nat), PositionOk h.st → ModeFollows h.st → (∀ n ∈ ns, n ≤ 456) → ns.sum = 70224 →
    ∃ h', runProgram h (ns.map ProgramLine.step) = .next h' ∧ h'.st.ly = h.st.ly ∧ h'.st.counter = h.st.counter ∧
      h'.st.mode = h.st.mode ∧ framesDone h'.st.results = framesDone h.st.results + 1 ∧ h'.ifByte.getLsbD 0 = true

/-! ### Tile cache and palettes -/

/-- 42_tile_cache.md R201: the colour index of a tile's pixel from the two planes of its row, and the document's example. -/
def Obligations.TileRowsDecodeFromTwoPlanes : Prop :=
  (∀ (bank : Memory) (t : Fin 384) (r k : Fin 8),
    ((decodeTile bank t)[r][k]).getLsbD 0 = (bank.read (16 * t.val + 2 * r.val)).getLsbD (7 - k.val) ∧
    ((decodeTile bank t)[r][k]).getLsbD 1 = (bank.read (16 * t.val + 2 * r.val + 1)).getLsbD (7 - k.val)) ∧
  (List.finRange 8).map (decodePixel 0b00011011 0b01101010) = [0, 2, 2, 1, 3, 0, 3, 1]

/-- 42_tile_cache.md R202: a map byte to a tile number under both settings of LCDC bit 4, with the ranges it gives. -/
def Obligations.MapBytesSelectTheirTiles : Prop :=
  ∀ idx : Byte, bgTile idx true = idx.toNat ∧
    (idx.toNat ≤ 127 → bgTile idx false = idx.toNat + 256) ∧ (128 ≤ idx.toNat → bgTile idx false = idx.toNat) ∧
    bgTile idx true ≤ 255 ∧ 128 ≤ bgTile idx false ∧ bgTile idx false ≤ 383

/-- 42_tile_cache.md R205: the refresh decodes every dirty tile, clears every flag and changes nothing else; with the
aggregate flag clear it changes nothing at all. It runs at the start of every render that is not a no-op: with LCDC bit 7 set
the line is composed from the refreshed state, and the render leaves that state but for its row and the scratch; with bit 7
clear nothing is refreshed (corner case 1). -/
def Obligations.RefreshDecodesTheDirtyTiles : Prop :=
  ∀ s : State,
    (s.anyDirty = true → (∀ t : Fin 384,
        (refresh s).cache[t] = (if s.dirty[t] = true then decodeTile s.vram0 t else s.cache[t]) ∧
        (refresh s).dirty[t] = false) ∧
      (refresh s).anyDirty = false ∧
      refresh s = { s with cache := (refresh s).cache, dirty := (refresh s).dirty, anyDirty := false }) ∧
    (s.anyDirty = false → refresh s = s) ∧
    ∀ line : Fin 144,
      (s.reg.lcdc.getLsbD 7 = true → ∃ b, composeLine (refresh s) line = .ok b ∧
        render line s = .ok { refresh s with fb := s.fb.set line b.row, prio := b.prio, spriteDone := b.done }) ∧
      (s.reg.lcdc.getLsbD 7 = false → render line s = .ok s)

/-- 42_tile_cache.md R206: the lookup of the renderer and its guard. -/
def Obligations.TileLookupHasAGuard : Prop :=
  ∀ (s : State) (t : Nat) (r k : Fin 8), (384 ≤ t → tilePx s t r k = .error .tileIndexOutOfRange) ∧
    ∀ h : t < 384, tilePx s t r k = .ok s.cache[t][r][k]

/-- 44_palette_compiler.md R260: each slot is the base colour of its two bits, with the corner cases. -/
def Obligations.PaletteSlotsAreBaseColours : Prop :=
  ∀ base : Palette, (∀ (d : Byte) (k : Fin 4), (compile base d)[k] = base[(d.toNat / 4 ^ k.val) % 4]) ∧
    compile base 0xE4 = base ∧ (∀ k : Fin 4, (compile base 0x00)[k] = base[0]) ∧
    compile base 0x1B = #v[base[3], base[2], base[1], base[0]] ∧
    compile base 0xD2 = #v[base[2], base[0], base[1], base[3]]

/-! ### Scanline renderer -/

/-- 43_scanline_renderer.md R221: with the display off a render changes no state. -/
def Obligations.DisplayOffRendersNothing : Prop :=
  ∀ (line : Fin 144) (s : State), s.reg.lcdc.getLsbD 7 = false → render line s = .ok s

/-- 43_scanline_renderer.md R225, R226 and R227: the background layer writes every column: the colour and raw index the tile
cache holds for the pixel of the map that the scrolls select. It marks no column. -/
def Obligations.BackgroundLayerWritesEveryColumn : Prop :=
  ∀ (s : State) (line : Nat) (b : LineBuf), ∃ b', bgLine s line b = .ok b' ∧ b'.done = b.done ∧
    ∀ x : Fin 160, ∃ ci : ColourIndex,
      (let y := (line + s.reg.scy.toNat) % 256
       let xx := (x.val + s.reg.scx.toNat) % 256
       let base := if s.reg.lcdc.getLsbD 3 then 0x1C00 else 0x1800
       let idx := s.vram0.read (base + 32 * (y / 8) + xx / 8)
       tilePx s (bgTile idx (s.reg.lcdc.getLsbD 4)) ⟨y % 8, Nat.mod_lt y (by decide)⟩ ⟨xx % 8, Nat.mod_lt xx (by decide)⟩ =
         .ok ci) ∧
      b'.row[x] = s.palBg[ci.toNat]'ci.isLt ∧ b'.prio[x] = ci.toNat

/-- The scratch starts clear and a disabled background writes nothing (43_scanline_renderer.md R223, R224): with the
background off, a column the window does not cover has priority 0, and with the sprites off too it keeps its pixel. -/
def Obligations.DisabledBackgroundKeepsThePixels : Prop :=
  ∀ (s : State) (line : Fin 144), s.reg.lcdc.getLsbD 0 = false → ∃ b, composeLine s line = .ok b ∧
    ∀ x : Fin 160, (s.reg.lcdc.getLsbD 5 = false ∨ line.val < s.reg.wy.toNat ∨ x.val + 7 < s.reg.wx.toNat) →
      b.prio[x] = 0 ∧ (s.reg.lcdc.getLsbD 1 = false → b.row[x] = s.fb[line][x] ∧ b.done[x] = false)

/-- 43_scanline_renderer.md R229 and R230, over the region of R228: the window layer writes exactly the columns with
`x + 7 >= WX` of the lines with `line >= WY`, from its own map at its own coordinates, and leaves every other column. -/
def Obligations.WindowLayerWritesItsRegion : Prop :=
  ∀ (s : State) (line : Nat) (b : LineBuf), ∃ b', winLine s line b = .ok b' ∧ b'.done = b.done ∧
    ∀ x : Fin 160,
      (s.reg.wy.toNat ≤ line → s.reg.wx.toNat ≤ x.val + 7 → ∃ ci : ColourIndex,
        (let wy := line - s.reg.wy.toNat
         let wx := x.val + 7 - s.reg.wx.toNat
         let base := if s.reg.lcdc.getLsbD 6 then 0x1C00 else 0x1800
         let idx := s.vram0.read (base + 32 * (wy / 8) + wx / 8)
         tilePx s (bgTile idx (s.reg.lcdc.getLsbD 4)) ⟨wy % 8, Nat.mod_lt wy (by decide)⟩
           ⟨wx % 8, Nat.mod_lt wx (by decide)⟩ = .ok ci) ∧
        b'.row[x] = s.palBg[ci.toNat]'ci.isLt ∧ b'.prio[x] = ci.toNat) ∧
      (line < s.reg.wy.toNat ∨ x.val + 7 < s.reg.wx.toNat → b'.row[x] = b.row[x] ∧ b'.prio[x] = b.prio[x])

/-- 43_scanline_renderer.md R233, R234, R235, R236 and R237: which lines a sprite is on, its row, tile, palette and column; and
30_encoding.md R94: which byte of the sprite table is which field of which entry. -/
def Obligations.SpriteFieldsSelectItsPixel : Prop :=
  (∀ (oam : Memory) (k : Nat), k < 40 →
    (spriteAt oam k).y = oam.read (4 * k) ∧ (spriteAt oam k).x = oam.read (4 * k + 1) ∧
    (spriteAt oam k).tile = oam.read (4 * k + 2) ∧ (spriteAt oam k).flags = oam.read (4 * k + 3)) ∧
  ∀ (s : State) (sp : Sprite) (h line : Nat),
    (sp.onLine h line = true ↔ (sp.y.toNat : Int) - 16 ≤ line ∧ (line : Int) < (sp.y.toNat : Int) - 16 + h) ∧
    (sp.onLine h line = true → sp.row h line =
      if sp.flags.getLsbD 6 = true then h - 1 - (line + 16 - sp.y.toNat) else line + 16 - sp.y.toNat) ∧
    (∀ r : Nat, sp.tileOf 8 r = sp.tile.toNat ∧ (r < 16 → sp.tileOf 16 r = sp.tile.toNat / 2 * 2 + r / 8)) ∧
    spritePalette s sp = (if sp.flags.getLsbD 4 = true then s.palObp1 else s.palObp0) ∧
    (∀ c : Fin 8, (sp.column c).val = if sp.flags.getLsbD 5 = true then 7 - c.val else c.val) ∧
    (∀ c : Fin 8,
      let tall := if s.reg.lcdc.getLsbD 2 = true then 16 else 8
      let r := sp.row tall line
      spritePixel s line sp c = tilePx s (sp.tileOf tall r) ⟨r % 8, Nat.mod_lt r (by decide)⟩ (sp.column c))

/-- 43_scanline_renderer.md R238 and R240: a sprite column is drawn, and its screen column marked, exactly when none of the
five tests skips it; the priority buffer and every other column stay as they are. -/
def Obligations.SpriteColumnsPassFiveTests : Prop :=
  ∀ (s : State) (line : Nat) (sp : Sprite) (b : LineBuf) (c : Fin 8), ∃ b' ci,
    spriteColumn s line sp b c = .ok b' ∧ spritePixel s line sp c = .ok ci ∧ b'.prio = b.prio ∧
    ∀ x : Fin 160,
      (((x.val : Int) = (sp.x.toNat : Int) - 8 + c.val ∧ b.prio[x] < 4 ∧
          ¬ (sp.flags.getLsbD 7 = true ∧ b.prio[x] ≠ 0) ∧ ci ≠ 0 ∧ b.done[x] = false) →
        b'.row[x] = (spritePalette s sp)[ci.toNat]'ci.isLt ∧ b'.done[x] = true) ∧
      (¬ ((x.val : Int) = (sp.x.toNat : Int) - 8 + c.val ∧ b.prio[x] < 4 ∧
          ¬ (sp.flags.getLsbD 7 = true ∧ b.prio[x] ≠ 0) ∧ ci ≠ 0 ∧ b.done[x] = false) →
        b'.row[x] = b.row[x] ∧ b'.done[x] = b.done[x])

/-- The rendered line, whole (43_scanline_renderer.md R222 to R240 with 42_tile_cache.md R207): after a `Step` that enters
H-blank with the display on, every pixel of the current row, every priority and every sprite mark is what the description
of Safety.lean gives from the state before the step, which names no cache, no buffer and no order of writes: the colour of
the first sprite in table order that shows there, else of the window or background, else what was there. LCDC bit 7 set
runs the render, and bits 5, 0 and 1 set run their layers (R222, R224, R228, R231): the window gives the priorities where it
covers, the background where the window does not, and a sprite that shows marks its column. The premises on the cache are
its coherence (10_state.md R31), which every step keeps. -/
def Obligations.RenderedLineIsTheDescribedLine : Prop :=
  ∀ (s : State) (n : Nat) (f : Byte) (line : Fin 144), CacheCoherent s → FlagsCoherent s → s.reg.lcdc.getLsbD 7 = true →
    n ≤ 456 → lyAfter n s = line.val → enters .hBlank n s = true →
    ∃ t, exec (.step n f) s = .next t ∧
      ∀ x : Fin 160, t.fb[line][x] = pixelColour s line x ∧ t.prio[x] = tilePrio s line.val x ∧
        t.spriteDone[x] = (winningSprite s line.val x).isSome ∧
        (s.reg.lcdc.getLsbD 5 = true → s.reg.wy.toNat ≤ line.val → s.reg.wx.toNat ≤ x.val + 7 →
          t.prio[x] = (winIndex s line.val x.val).toNat) ∧
        (s.reg.lcdc.getLsbD 0 = true →
          s.reg.lcdc.getLsbD 5 = false ∨ line.val < s.reg.wy.toNat ∨ x.val + 7 < s.reg.wx.toNat →
          t.prio[x] = (bgIndex s line.val x.val).toNat) ∧
        (s.reg.lcdc.getLsbD 1 = true → ∀ k : Fin 40, spriteShows s line.val x k = true → t.spriteDone[x] = true)

/-- The tile cache and the scratch are unobservable (10_state.md R35, 42_tile_cache.md R207): from two states that differ in
them alone, both coherent, an operation ends alike, gives the same results and leaves states that again differ in them
alone and are coherent. -/
def Obligations.CacheAndScratchAreUnobservable : Prop :=
  ∀ (i : Instr) (s t s' : State), SameVisible s t → CacheCoherent s → FlagsCoherent s → CacheCoherent t → FlagsCoherent t →
    MemoriesCanonical s → exec i s = .next s' →
    ∃ t', exec i t = .next t' ∧ SameVisible s' t' ∧ CacheCoherent s' ∧ FlagsCoherent s' ∧ CacheCoherent t' ∧ FlagsCoherent t'
end

