-- ==== Sys2Proof/Laws/Memory.lean ====
section
/-! SUPPORT. Laws/Memory.lean: a read after a write, and that every memory operation keeps the canonical form. -/

namespace Sys2Proof.Machine

/-- In a canonical memory from `lo` on, an address below `lo` is unlisted. -/
theorem Memory.read_below {size : Nat} (m : Memory) (lo addr : Nat) (h : Memory.wfFrom lo size m = true) (hlt : addr < lo) :
    Memory.read m addr = Memory.unlisted := by
  induction m generalizing lo with
  | nil => rfl
  | cons cell rest ih =>
    obtain ⟨b, v⟩ := cell
    simp only [Memory.wfFrom, Bool.and_eq_true, decide_eq_true_eq] at h
    have hne : b ≠ addr := by omega
    simp only [Memory.read, if_neg hne]
    exact ih (b + 1) h.2 (by omega)

/-- Reading past a cell put in front. -/
theorem Memory.read_front (m : Memory) (addr a : Nat) (v : Byte) (h : Memory.read m addr = Memory.unlisted) :
    Memory.read (Memory.front addr v m) a = if a = addr then v else Memory.read m a := by
  unfold Memory.front
  by_cases hv : v = Memory.unlisted
  · rw [if_pos hv]
    by_cases ha : a = addr
    · rw [if_pos ha, ha, h, hv]
    · rw [if_neg ha]
  · rw [if_neg hv]
    by_cases ha : a = addr
    · simp [Memory.read, ha]
    · simp [Memory.read, ha, Ne.symm ha]

/-- A read after a write in a canonical memory: the byte written at its address, every other address as before. -/
theorem Memory.read_write {size : Nat} (m : Memory) (lo addr a : Nat) (v : Byte) (h : Memory.wfFrom lo size m = true) :
    Memory.read (Memory.write m addr v) a = if a = addr then v else Memory.read m a := by
  induction m generalizing lo with
  | nil => exact Memory.read_front [] addr a v rfl
  | cons cell rest ih =>
    obtain ⟨b, w⟩ := cell
    have h' := h
    simp only [Memory.wfFrom, Bool.and_eq_true, decide_eq_true_eq] at h'
    unfold Memory.write
    by_cases hlt : addr < b
    · rw [if_pos hlt]
      refine Memory.read_front _ addr a v (Memory.read_below (size := size) _ b addr ?_ hlt)
      simp [Memory.wfFrom, h'.1.1.2, h'.1.2, h'.2]
    · rw [if_neg hlt]
      by_cases hb : b = addr
      · rw [if_pos hb, Memory.read_front rest addr a v (Memory.read_below rest (b + 1) addr h'.2 (by omega))]
        by_cases ha : a = addr
        · rw [if_pos ha, if_pos ha]
        · rw [if_neg ha, if_neg ha]
          simp [Memory.read, hb, Ne.symm ha]
      · rw [if_neg hb]
        simp only [Memory.read]
        by_cases hba : b = a
        · have : a ≠ addr := by omega
          rw [if_pos hba, if_neg this, if_pos hba]
        · rw [if_neg hba, if_neg hba]
          exact ih (b + 1) h'.2

/-- Putting a cell in front of a canonical memory of higher addresses keeps the form. -/
theorem Memory.wfFrom_front {size : Nat} (m : Memory) (lo addr : Nat) (v : Byte) (h : Memory.wfFrom (addr + 1) size m = true)
    (hlo : lo ≤ addr) (hsize : addr < size) (hm : Memory.wfFrom lo size m = true) :
    Memory.wfFrom lo size (Memory.front addr v m) = true := by
  unfold Memory.front
  by_cases hv : v = Memory.unlisted
  · rw [if_pos hv]; exact hm
  · rw [if_neg hv]
    simp [Memory.wfFrom, hlo, hsize, hv, h]

/-- A canonical memory from a later address on is one from an earlier address on. -/
theorem Memory.wfFrom_weaken {size : Nat} (m : Memory) (lo lo' : Nat) (h : Memory.wfFrom lo size m = true) (hle : lo' ≤ lo) :
    Memory.wfFrom lo' size m = true := by
  cases m with
  | nil => rfl
  | cons cell rest =>
    obtain ⟨b, v⟩ := cell
    simp only [Memory.wfFrom, Bool.and_eq_true, decide_eq_true_eq] at h ⊢
    exact ⟨⟨⟨by omega, h.1.1.2⟩, h.1.2⟩, h.2⟩

/-- A write keeps the canonical form, from any address on. -/
theorem Memory.wfFrom_write {size : Nat} (m : Memory) (lo addr : Nat) (v : Byte) (h : Memory.wfFrom lo size m = true)
    (hlo : lo ≤ addr) (hsize : addr < size) : Memory.wfFrom lo size (Memory.write m addr v) = true := by
  induction m generalizing lo with
  | nil => exact Memory.wfFrom_front [] lo addr v rfl hlo hsize rfl
  | cons cell rest ih =>
    obtain ⟨b, w⟩ := cell
    have h' := h
    simp only [Memory.wfFrom, Bool.and_eq_true, decide_eq_true_eq] at h'
    unfold Memory.write
    by_cases hlt : addr < b
    · rw [if_pos hlt]
      refine Memory.wfFrom_front _ lo addr v ?_ hlo hsize h
      simp only [Memory.wfFrom, Bool.and_eq_true, decide_eq_true_eq]
      exact ⟨⟨⟨by omega, h'.1.1.2⟩, h'.1.2⟩, h'.2⟩
    · rw [if_neg hlt]
      by_cases hb : b = addr
      · rw [if_pos hb]
        subst hb
        exact Memory.wfFrom_front rest lo b v h'.2 hlo hsize (Memory.wfFrom_weaken rest (b + 1) lo h'.2 (by omega))
      · rw [if_neg hb]
        simp only [Memory.wfFrom, Bool.and_eq_true, decide_eq_true_eq]
        exact ⟨h'.1, ih (b + 1) h'.2 (by omega)⟩

/-- A write inside the memory keeps the canonical form. -/
theorem Memory.wf_write {size : Nat} (m : Memory) (addr : Nat) (v : Byte) (h : m.wf size = true) (hsize : addr < size) :
    (m.write addr v).wf size = true :=
  Memory.wfFrom_write m 0 addr v h (Nat.zero_le addr) hsize

/-- A read after a write in a canonical memory. -/
theorem Memory.wf_read_write {size : Nat} (m : Memory) (addr a : Nat) (v : Byte) (h : m.wf size = true) :
    (m.write addr v).read a = if a = addr then v else m.read a :=
  Memory.read_write m 0 addr a v h

/-- A write over a cell just put in front of higher addresses replaces it. -/
theorem Memory.write_front {size : Nat} (m : Memory) (addr : Nat) (v w : Byte) (h : Memory.wfFrom (addr + 1) size m = true) :
    Memory.write (Memory.front addr v m) addr w = Memory.front addr w m := by
  unfold Memory.front
  by_cases hv : v = Memory.unlisted
  · rw [if_pos hv]
    cases m with
    | nil => rfl
    | cons cell rest =>
      obtain ⟨b, x⟩ := cell
      simp only [Memory.wfFrom, Bool.and_eq_true, decide_eq_true_eq] at h
      have hlt : addr < b := by omega
      simp only [Memory.write, if_pos hlt]
      rfl
  · rw [if_neg hv]
    simp only [Memory.write, Nat.lt_irrefl, if_false, if_true]
    rfl

/-- The later of two writes of one address in a canonical memory wins. -/
theorem Memory.write_write {size : Nat} (m : Memory) (lo addr : Nat) (v w : Byte) (h : Memory.wfFrom lo size m = true) :
    Memory.write (Memory.write m addr v) addr w = Memory.write m addr w := by
  induction m generalizing lo with
  | nil => exact Memory.write_front [] addr v w (size := size) rfl
  | cons cell rest ih =>
    obtain ⟨b, x⟩ := cell
    have h' := h
    simp only [Memory.wfFrom, Bool.and_eq_true, decide_eq_true_eq] at h'
    by_cases hlt : addr < b
    · have hw : ∀ y, Memory.write ((b, x) :: rest) addr y = Memory.front addr y ((b, x) :: rest) := by
        intro y; simp only [Memory.write, if_pos hlt]
      rw [hw, hw]
      refine Memory.write_front _ addr v w (size := size) ?_
      simp only [Memory.wfFrom, Bool.and_eq_true, decide_eq_true_eq]
      exact ⟨⟨⟨hlt, h'.1.1.2⟩, h'.1.2⟩, h'.2⟩
    · by_cases hb : b = addr
      · have hw : ∀ y, Memory.write ((b, x) :: rest) addr y = Memory.front addr y rest := by
          intro y; simp only [Memory.write, if_neg hlt, if_pos hb]
        rw [hw, hw]
        subst hb
        exact Memory.write_front rest b v w h'.2
      · have hw : ∀ y (r : Memory), Memory.write ((b, x) :: r) addr y = (b, x) :: Memory.write r addr y := by
          intro y r; simp only [Memory.write, if_neg hlt, if_neg hb]
        rw [hw, hw, hw, ih (b + 1) h'.2]

end Sys2Proof.Machine
end

