-- ==== Sys2Proof/Laws/State.lean ====
section
/-! SUPPORT. Laws/State.lean: what each named update of the state leaves in each field, one lemma per field per update. -/

namespace Sys2Proof.Machine

variable (s : State)

/-! ### emit -/

@[simp] theorem State.emit_cfg (r : Result) : (s.emit r).cfg = s.cfg := rfl
@[simp] theorem State.emit_reg (r : Result) : (s.emit r).reg = s.reg := rfl
@[simp] theorem State.emit_ly (r : Result) : (s.emit r).ly = s.ly := rfl
@[simp] theorem State.emit_counter (r : Result) : (s.emit r).counter = s.counter := rfl
@[simp] theorem State.emit_mode (r : Result) : (s.emit r).mode = s.mode := rfl
@[simp] theorem State.emit_vram0 (r : Result) : (s.emit r).vram0 = s.vram0 := rfl
@[simp] theorem State.emit_vram1 (r : Result) : (s.emit r).vram1 = s.vram1 := rfl
@[simp] theorem State.emit_oam (r : Result) : (s.emit r).oam = s.oam := rfl
@[simp] theorem State.emit_cache (r : Result) : (s.emit r).cache = s.cache := rfl
@[simp] theorem State.emit_dirty (r : Result) : (s.emit r).dirty = s.dirty := rfl
@[simp] theorem State.emit_anyDirty (r : Result) : (s.emit r).anyDirty = s.anyDirty := rfl
@[simp] theorem State.emit_palBg (r : Result) : (s.emit r).palBg = s.palBg := rfl
@[simp] theorem State.emit_palObp0 (r : Result) : (s.emit r).palObp0 = s.palObp0 := rfl
@[simp] theorem State.emit_palObp1 (r : Result) : (s.emit r).palObp1 = s.palObp1 := rfl
@[simp] theorem State.emit_fb (r : Result) : (s.emit r).fb = s.fb := rfl
@[simp] theorem State.emit_prio (r : Result) : (s.emit r).prio = s.prio := rfl
@[simp] theorem State.emit_spriteDone (r : Result) : (s.emit r).spriteDone = s.spriteDone := rfl
@[simp] theorem State.emit_inbox (r : Result) : (s.emit r).inbox = s.inbox := rfl
@[simp] theorem State.emit_results (r : Result) : (s.emit r).results = r :: s.results := rfl

/-! ### setInbox -/

@[simp] theorem State.setInbox_cfg (ts : List Transaction) : (s.setInbox ts).cfg = s.cfg := rfl
@[simp] theorem State.setInbox_reg (ts : List Transaction) : (s.setInbox ts).reg = s.reg := rfl
@[simp] theorem State.setInbox_ly (ts : List Transaction) : (s.setInbox ts).ly = s.ly := rfl
@[simp] theorem State.setInbox_counter (ts : List Transaction) : (s.setInbox ts).counter = s.counter := rfl
@[simp] theorem State.setInbox_mode (ts : List Transaction) : (s.setInbox ts).mode = s.mode := rfl
@[simp] theorem State.setInbox_vram0 (ts : List Transaction) : (s.setInbox ts).vram0 = s.vram0 := rfl
@[simp] theorem State.setInbox_vram1 (ts : List Transaction) : (s.setInbox ts).vram1 = s.vram1 := rfl
@[simp] theorem State.setInbox_oam (ts : List Transaction) : (s.setInbox ts).oam = s.oam := rfl
@[simp] theorem State.setInbox_cache (ts : List Transaction) : (s.setInbox ts).cache = s.cache := rfl
@[simp] theorem State.setInbox_dirty (ts : List Transaction) : (s.setInbox ts).dirty = s.dirty := rfl
@[simp] theorem State.setInbox_anyDirty (ts : List Transaction) : (s.setInbox ts).anyDirty = s.anyDirty := rfl
@[simp] theorem State.setInbox_palBg (ts : List Transaction) : (s.setInbox ts).palBg = s.palBg := rfl
@[simp] theorem State.setInbox_palObp0 (ts : List Transaction) : (s.setInbox ts).palObp0 = s.palObp0 := rfl
@[simp] theorem State.setInbox_palObp1 (ts : List Transaction) : (s.setInbox ts).palObp1 = s.palObp1 := rfl
@[simp] theorem State.setInbox_fb (ts : List Transaction) : (s.setInbox ts).fb = s.fb := rfl
@[simp] theorem State.setInbox_prio (ts : List Transaction) : (s.setInbox ts).prio = s.prio := rfl
@[simp] theorem State.setInbox_spriteDone (ts : List Transaction) : (s.setInbox ts).spriteDone = s.spriteDone := rfl
@[simp] theorem State.setInbox_inbox (ts : List Transaction) : (s.setInbox ts).inbox = ts := rfl
@[simp] theorem State.setInbox_results (ts : List Transaction) : (s.setInbox ts).results = s.results := rfl

/-! ### setReg -/

@[simp] theorem State.setReg_cfg (g : Regs) : (s.setReg g).cfg = s.cfg := rfl
@[simp] theorem State.setReg_reg (g : Regs) : (s.setReg g).reg = g := rfl
@[simp] theorem State.setReg_ly (g : Regs) : (s.setReg g).ly = s.ly := rfl
@[simp] theorem State.setReg_counter (g : Regs) : (s.setReg g).counter = s.counter := rfl
@[simp] theorem State.setReg_mode (g : Regs) : (s.setReg g).mode = s.mode := rfl
@[simp] theorem State.setReg_vram0 (g : Regs) : (s.setReg g).vram0 = s.vram0 := rfl
@[simp] theorem State.setReg_vram1 (g : Regs) : (s.setReg g).vram1 = s.vram1 := rfl
@[simp] theorem State.setReg_oam (g : Regs) : (s.setReg g).oam = s.oam := rfl
@[simp] theorem State.setReg_cache (g : Regs) : (s.setReg g).cache = s.cache := rfl
@[simp] theorem State.setReg_dirty (g : Regs) : (s.setReg g).dirty = s.dirty := rfl
@[simp] theorem State.setReg_anyDirty (g : Regs) : (s.setReg g).anyDirty = s.anyDirty := rfl
@[simp] theorem State.setReg_palBg (g : Regs) : (s.setReg g).palBg = s.palBg := rfl
@[simp] theorem State.setReg_palObp0 (g : Regs) : (s.setReg g).palObp0 = s.palObp0 := rfl
@[simp] theorem State.setReg_palObp1 (g : Regs) : (s.setReg g).palObp1 = s.palObp1 := rfl
@[simp] theorem State.setReg_fb (g : Regs) : (s.setReg g).fb = s.fb := rfl
@[simp] theorem State.setReg_prio (g : Regs) : (s.setReg g).prio = s.prio := rfl
@[simp] theorem State.setReg_spriteDone (g : Regs) : (s.setReg g).spriteDone = s.spriteDone := rfl
@[simp] theorem State.setReg_inbox (g : Regs) : (s.setReg g).inbox = s.inbox := rfl
@[simp] theorem State.setReg_results (g : Regs) : (s.setReg g).results = s.results := rfl

/-! ### setPos -/

@[simp] theorem State.setPos_cfg (l k : Nat) : (s.setPos l k).cfg = s.cfg := rfl
@[simp] theorem State.setPos_reg (l k : Nat) : (s.setPos l k).reg = s.reg := rfl
@[simp] theorem State.setPos_ly (l k : Nat) : (s.setPos l k).ly = l := rfl
@[simp] theorem State.setPos_counter (l k : Nat) : (s.setPos l k).counter = k := rfl
@[simp] theorem State.setPos_mode (l k : Nat) : (s.setPos l k).mode = s.mode := rfl
@[simp] theorem State.setPos_vram0 (l k : Nat) : (s.setPos l k).vram0 = s.vram0 := rfl
@[simp] theorem State.setPos_vram1 (l k : Nat) : (s.setPos l k).vram1 = s.vram1 := rfl
@[simp] theorem State.setPos_oam (l k : Nat) : (s.setPos l k).oam = s.oam := rfl
@[simp] theorem State.setPos_cache (l k : Nat) : (s.setPos l k).cache = s.cache := rfl
@[simp] theorem State.setPos_dirty (l k : Nat) : (s.setPos l k).dirty = s.dirty := rfl
@[simp] theorem State.setPos_anyDirty (l k : Nat) : (s.setPos l k).anyDirty = s.anyDirty := rfl
@[simp] theorem State.setPos_palBg (l k : Nat) : (s.setPos l k).palBg = s.palBg := rfl
@[simp] theorem State.setPos_palObp0 (l k : Nat) : (s.setPos l k).palObp0 = s.palObp0 := rfl
@[simp] theorem State.setPos_palObp1 (l k : Nat) : (s.setPos l k).palObp1 = s.palObp1 := rfl
@[simp] theorem State.setPos_fb (l k : Nat) : (s.setPos l k).fb = s.fb := rfl
@[simp] theorem State.setPos_prio (l k : Nat) : (s.setPos l k).prio = s.prio := rfl
@[simp] theorem State.setPos_spriteDone (l k : Nat) : (s.setPos l k).spriteDone = s.spriteDone := rfl
@[simp] theorem State.setPos_inbox (l k : Nat) : (s.setPos l k).inbox = s.inbox := rfl
@[simp] theorem State.setPos_results (l k : Nat) : (s.setPos l k).results = s.results := rfl

/-! ### setMode -/

@[simp] theorem State.setMode_cfg (m : Mode) : (s.setMode m).cfg = s.cfg := rfl
@[simp] theorem State.setMode_reg (m : Mode) : (s.setMode m).reg = s.reg := rfl
@[simp] theorem State.setMode_ly (m : Mode) : (s.setMode m).ly = s.ly := rfl
@[simp] theorem State.setMode_counter (m : Mode) : (s.setMode m).counter = s.counter := rfl
@[simp] theorem State.setMode_mode (m : Mode) : (s.setMode m).mode = m := rfl
@[simp] theorem State.setMode_vram0 (m : Mode) : (s.setMode m).vram0 = s.vram0 := rfl
@[simp] theorem State.setMode_vram1 (m : Mode) : (s.setMode m).vram1 = s.vram1 := rfl
@[simp] theorem State.setMode_oam (m : Mode) : (s.setMode m).oam = s.oam := rfl
@[simp] theorem State.setMode_cache (m : Mode) : (s.setMode m).cache = s.cache := rfl
@[simp] theorem State.setMode_dirty (m : Mode) : (s.setMode m).dirty = s.dirty := rfl
@[simp] theorem State.setMode_anyDirty (m : Mode) : (s.setMode m).anyDirty = s.anyDirty := rfl
@[simp] theorem State.setMode_palBg (m : Mode) : (s.setMode m).palBg = s.palBg := rfl
@[simp] theorem State.setMode_palObp0 (m : Mode) : (s.setMode m).palObp0 = s.palObp0 := rfl
@[simp] theorem State.setMode_palObp1 (m : Mode) : (s.setMode m).palObp1 = s.palObp1 := rfl
@[simp] theorem State.setMode_fb (m : Mode) : (s.setMode m).fb = s.fb := rfl
@[simp] theorem State.setMode_prio (m : Mode) : (s.setMode m).prio = s.prio := rfl
@[simp] theorem State.setMode_spriteDone (m : Mode) : (s.setMode m).spriteDone = s.spriteDone := rfl
@[simp] theorem State.setMode_inbox (m : Mode) : (s.setMode m).inbox = s.inbox := rfl
@[simp] theorem State.setMode_results (m : Mode) : (s.setMode m).results = s.results := rfl

/-! ### setVram0 -/

@[simp] theorem State.setVram0_cfg (m : Memory) : (s.setVram0 m).cfg = s.cfg := rfl
@[simp] theorem State.setVram0_reg (m : Memory) : (s.setVram0 m).reg = s.reg := rfl
@[simp] theorem State.setVram0_ly (m : Memory) : (s.setVram0 m).ly = s.ly := rfl
@[simp] theorem State.setVram0_counter (m : Memory) : (s.setVram0 m).counter = s.counter := rfl
@[simp] theorem State.setVram0_mode (m : Memory) : (s.setVram0 m).mode = s.mode := rfl
@[simp] theorem State.setVram0_vram0 (m : Memory) : (s.setVram0 m).vram0 = m := rfl
@[simp] theorem State.setVram0_vram1 (m : Memory) : (s.setVram0 m).vram1 = s.vram1 := rfl
@[simp] theorem State.setVram0_oam (m : Memory) : (s.setVram0 m).oam = s.oam := rfl
@[simp] theorem State.setVram0_cache (m : Memory) : (s.setVram0 m).cache = s.cache := rfl
@[simp] theorem State.setVram0_dirty (m : Memory) : (s.setVram0 m).dirty = s.dirty := rfl
@[simp] theorem State.setVram0_anyDirty (m : Memory) : (s.setVram0 m).anyDirty = s.anyDirty := rfl
@[simp] theorem State.setVram0_palBg (m : Memory) : (s.setVram0 m).palBg = s.palBg := rfl
@[simp] theorem State.setVram0_palObp0 (m : Memory) : (s.setVram0 m).palObp0 = s.palObp0 := rfl
@[simp] theorem State.setVram0_palObp1 (m : Memory) : (s.setVram0 m).palObp1 = s.palObp1 := rfl
@[simp] theorem State.setVram0_fb (m : Memory) : (s.setVram0 m).fb = s.fb := rfl
@[simp] theorem State.setVram0_prio (m : Memory) : (s.setVram0 m).prio = s.prio := rfl
@[simp] theorem State.setVram0_spriteDone (m : Memory) : (s.setVram0 m).spriteDone = s.spriteDone := rfl
@[simp] theorem State.setVram0_inbox (m : Memory) : (s.setVram0 m).inbox = s.inbox := rfl
@[simp] theorem State.setVram0_results (m : Memory) : (s.setVram0 m).results = s.results := rfl

/-! ### setVram1 -/

@[simp] theorem State.setVram1_cfg (m : Memory) : (s.setVram1 m).cfg = s.cfg := rfl
@[simp] theorem State.setVram1_reg (m : Memory) : (s.setVram1 m).reg = s.reg := rfl
@[simp] theorem State.setVram1_ly (m : Memory) : (s.setVram1 m).ly = s.ly := rfl
@[simp] theorem State.setVram1_counter (m : Memory) : (s.setVram1 m).counter = s.counter := rfl
@[simp] theorem State.setVram1_mode (m : Memory) : (s.setVram1 m).mode = s.mode := rfl
@[simp] theorem State.setVram1_vram0 (m : Memory) : (s.setVram1 m).vram0 = s.vram0 := rfl
@[simp] theorem State.setVram1_vram1 (m : Memory) : (s.setVram1 m).vram1 = m := rfl
@[simp] theorem State.setVram1_oam (m : Memory) : (s.setVram1 m).oam = s.oam := rfl
@[simp] theorem State.setVram1_cache (m : Memory) : (s.setVram1 m).cache = s.cache := rfl
@[simp] theorem State.setVram1_dirty (m : Memory) : (s.setVram1 m).dirty = s.dirty := rfl
@[simp] theorem State.setVram1_anyDirty (m : Memory) : (s.setVram1 m).anyDirty = s.anyDirty := rfl
@[simp] theorem State.setVram1_palBg (m : Memory) : (s.setVram1 m).palBg = s.palBg := rfl
@[simp] theorem State.setVram1_palObp0 (m : Memory) : (s.setVram1 m).palObp0 = s.palObp0 := rfl
@[simp] theorem State.setVram1_palObp1 (m : Memory) : (s.setVram1 m).palObp1 = s.palObp1 := rfl
@[simp] theorem State.setVram1_fb (m : Memory) : (s.setVram1 m).fb = s.fb := rfl
@[simp] theorem State.setVram1_prio (m : Memory) : (s.setVram1 m).prio = s.prio := rfl
@[simp] theorem State.setVram1_spriteDone (m : Memory) : (s.setVram1 m).spriteDone = s.spriteDone := rfl
@[simp] theorem State.setVram1_inbox (m : Memory) : (s.setVram1 m).inbox = s.inbox := rfl
@[simp] theorem State.setVram1_results (m : Memory) : (s.setVram1 m).results = s.results := rfl

/-! ### setOam -/

@[simp] theorem State.setOam_cfg (m : Memory) : (s.setOam m).cfg = s.cfg := rfl
@[simp] theorem State.setOam_reg (m : Memory) : (s.setOam m).reg = s.reg := rfl
@[simp] theorem State.setOam_ly (m : Memory) : (s.setOam m).ly = s.ly := rfl
@[simp] theorem State.setOam_counter (m : Memory) : (s.setOam m).counter = s.counter := rfl
@[simp] theorem State.setOam_mode (m : Memory) : (s.setOam m).mode = s.mode := rfl
@[simp] theorem State.setOam_vram0 (m : Memory) : (s.setOam m).vram0 = s.vram0 := rfl
@[simp] theorem State.setOam_vram1 (m : Memory) : (s.setOam m).vram1 = s.vram1 := rfl
@[simp] theorem State.setOam_oam (m : Memory) : (s.setOam m).oam = m := rfl
@[simp] theorem State.setOam_cache (m : Memory) : (s.setOam m).cache = s.cache := rfl
@[simp] theorem State.setOam_dirty (m : Memory) : (s.setOam m).dirty = s.dirty := rfl
@[simp] theorem State.setOam_anyDirty (m : Memory) : (s.setOam m).anyDirty = s.anyDirty := rfl
@[simp] theorem State.setOam_palBg (m : Memory) : (s.setOam m).palBg = s.palBg := rfl
@[simp] theorem State.setOam_palObp0 (m : Memory) : (s.setOam m).palObp0 = s.palObp0 := rfl
@[simp] theorem State.setOam_palObp1 (m : Memory) : (s.setOam m).palObp1 = s.palObp1 := rfl
@[simp] theorem State.setOam_fb (m : Memory) : (s.setOam m).fb = s.fb := rfl
@[simp] theorem State.setOam_prio (m : Memory) : (s.setOam m).prio = s.prio := rfl
@[simp] theorem State.setOam_spriteDone (m : Memory) : (s.setOam m).spriteDone = s.spriteDone := rfl
@[simp] theorem State.setOam_inbox (m : Memory) : (s.setOam m).inbox = s.inbox := rfl
@[simp] theorem State.setOam_results (m : Memory) : (s.setOam m).results = s.results := rfl

/-! ### setTiles -/

@[simp] theorem State.setTiles_cfg (c : Vector Tile 384) (d : Vector Bool 384) (a : Bool) : (s.setTiles c d a).cfg = s.cfg := rfl
@[simp] theorem State.setTiles_reg (c : Vector Tile 384) (d : Vector Bool 384) (a : Bool) : (s.setTiles c d a).reg = s.reg := rfl
@[simp] theorem State.setTiles_ly (c : Vector Tile 384) (d : Vector Bool 384) (a : Bool) : (s.setTiles c d a).ly = s.ly := rfl
@[simp] theorem State.setTiles_counter (c : Vector Tile 384) (d : Vector Bool 384) (a : Bool) : (s.setTiles c d a).counter = s.counter := rfl
@[simp] theorem State.setTiles_mode (c : Vector Tile 384) (d : Vector Bool 384) (a : Bool) : (s.setTiles c d a).mode = s.mode := rfl
@[simp] theorem State.setTiles_vram0 (c : Vector Tile 384) (d : Vector Bool 384) (a : Bool) : (s.setTiles c d a).vram0 = s.vram0 := rfl
@[simp] theorem State.setTiles_vram1 (c : Vector Tile 384) (d : Vector Bool 384) (a : Bool) : (s.setTiles c d a).vram1 = s.vram1 := rfl
@[simp] theorem State.setTiles_oam (c : Vector Tile 384) (d : Vector Bool 384) (a : Bool) : (s.setTiles c d a).oam = s.oam := rfl
@[simp] theorem State.setTiles_cache (c : Vector Tile 384) (d : Vector Bool 384) (a : Bool) : (s.setTiles c d a).cache = c := rfl
@[simp] theorem State.setTiles_dirty (c : Vector Tile 384) (d : Vector Bool 384) (a : Bool) : (s.setTiles c d a).dirty = d := rfl
@[simp] theorem State.setTiles_anyDirty (c : Vector Tile 384) (d : Vector Bool 384) (a : Bool) : (s.setTiles c d a).anyDirty = a := rfl
@[simp] theorem State.setTiles_palBg (c : Vector Tile 384) (d : Vector Bool 384) (a : Bool) : (s.setTiles c d a).palBg = s.palBg := rfl
@[simp] theorem State.setTiles_palObp0 (c : Vector Tile 384) (d : Vector Bool 384) (a : Bool) : (s.setTiles c d a).palObp0 = s.palObp0 := rfl
@[simp] theorem State.setTiles_palObp1 (c : Vector Tile 384) (d : Vector Bool 384) (a : Bool) : (s.setTiles c d a).palObp1 = s.palObp1 := rfl
@[simp] theorem State.setTiles_fb (c : Vector Tile 384) (d : Vector Bool 384) (a : Bool) : (s.setTiles c d a).fb = s.fb := rfl
@[simp] theorem State.setTiles_prio (c : Vector Tile 384) (d : Vector Bool 384) (a : Bool) : (s.setTiles c d a).prio = s.prio := rfl
@[simp] theorem State.setTiles_spriteDone (c : Vector Tile 384) (d : Vector Bool 384) (a : Bool) : (s.setTiles c d a).spriteDone = s.spriteDone := rfl
@[simp] theorem State.setTiles_inbox (c : Vector Tile 384) (d : Vector Bool 384) (a : Bool) : (s.setTiles c d a).inbox = s.inbox := rfl
@[simp] theorem State.setTiles_results (c : Vector Tile 384) (d : Vector Bool 384) (a : Bool) : (s.setTiles c d a).results = s.results := rfl

/-! ### setPalBg -/

@[simp] theorem State.setPalBg_cfg (p : Palette) : (s.setPalBg p).cfg = s.cfg := rfl
@[simp] theorem State.setPalBg_reg (p : Palette) : (s.setPalBg p).reg = s.reg := rfl
@[simp] theorem State.setPalBg_ly (p : Palette) : (s.setPalBg p).ly = s.ly := rfl
@[simp] theorem State.setPalBg_counter (p : Palette) : (s.setPalBg p).counter = s.counter := rfl
@[simp] theorem State.setPalBg_mode (p : Palette) : (s.setPalBg p).mode = s.mode := rfl
@[simp] theorem State.setPalBg_vram0 (p : Palette) : (s.setPalBg p).vram0 = s.vram0 := rfl
@[simp] theorem State.setPalBg_vram1 (p : Palette) : (s.setPalBg p).vram1 = s.vram1 := rfl
@[simp] theorem State.setPalBg_oam (p : Palette) : (s.setPalBg p).oam = s.oam := rfl
@[simp] theorem State.setPalBg_cache (p : Palette) : (s.setPalBg p).cache = s.cache := rfl
@[simp] theorem State.setPalBg_dirty (p : Palette) : (s.setPalBg p).dirty = s.dirty := rfl
@[simp] theorem State.setPalBg_anyDirty (p : Palette) : (s.setPalBg p).anyDirty = s.anyDirty := rfl
@[simp] theorem State.setPalBg_palBg (p : Palette) : (s.setPalBg p).palBg = p := rfl
@[simp] theorem State.setPalBg_palObp0 (p : Palette) : (s.setPalBg p).palObp0 = s.palObp0 := rfl
@[simp] theorem State.setPalBg_palObp1 (p : Palette) : (s.setPalBg p).palObp1 = s.palObp1 := rfl
@[simp] theorem State.setPalBg_fb (p : Palette) : (s.setPalBg p).fb = s.fb := rfl
@[simp] theorem State.setPalBg_prio (p : Palette) : (s.setPalBg p).prio = s.prio := rfl
@[simp] theorem State.setPalBg_spriteDone (p : Palette) : (s.setPalBg p).spriteDone = s.spriteDone := rfl
@[simp] theorem State.setPalBg_inbox (p : Palette) : (s.setPalBg p).inbox = s.inbox := rfl
@[simp] theorem State.setPalBg_results (p : Palette) : (s.setPalBg p).results = s.results := rfl

/-! ### setPalObp0 -/

@[simp] theorem State.setPalObp0_cfg (p : Palette) : (s.setPalObp0 p).cfg = s.cfg := rfl
@[simp] theorem State.setPalObp0_reg (p : Palette) : (s.setPalObp0 p).reg = s.reg := rfl
@[simp] theorem State.setPalObp0_ly (p : Palette) : (s.setPalObp0 p).ly = s.ly := rfl
@[simp] theorem State.setPalObp0_counter (p : Palette) : (s.setPalObp0 p).counter = s.counter := rfl
@[simp] theorem State.setPalObp0_mode (p : Palette) : (s.setPalObp0 p).mode = s.mode := rfl
@[simp] theorem State.setPalObp0_vram0 (p : Palette) : (s.setPalObp0 p).vram0 = s.vram0 := rfl
@[simp] theorem State.setPalObp0_vram1 (p : Palette) : (s.setPalObp0 p).vram1 = s.vram1 := rfl
@[simp] theorem State.setPalObp0_oam (p : Palette) : (s.setPalObp0 p).oam = s.oam := rfl
@[simp] theorem State.setPalObp0_cache (p : Palette) : (s.setPalObp0 p).cache = s.cache := rfl
@[simp] theorem State.setPalObp0_dirty (p : Palette) : (s.setPalObp0 p).dirty = s.dirty := rfl
@[simp] theorem State.setPalObp0_anyDirty (p : Palette) : (s.setPalObp0 p).anyDirty = s.anyDirty := rfl
@[simp] theorem State.setPalObp0_palBg (p : Palette) : (s.setPalObp0 p).palBg = s.palBg := rfl
@[simp] theorem State.setPalObp0_palObp0 (p : Palette) : (s.setPalObp0 p).palObp0 = p := rfl
@[simp] theorem State.setPalObp0_palObp1 (p : Palette) : (s.setPalObp0 p).palObp1 = s.palObp1 := rfl
@[simp] theorem State.setPalObp0_fb (p : Palette) : (s.setPalObp0 p).fb = s.fb := rfl
@[simp] theorem State.setPalObp0_prio (p : Palette) : (s.setPalObp0 p).prio = s.prio := rfl
@[simp] theorem State.setPalObp0_spriteDone (p : Palette) : (s.setPalObp0 p).spriteDone = s.spriteDone := rfl
@[simp] theorem State.setPalObp0_inbox (p : Palette) : (s.setPalObp0 p).inbox = s.inbox := rfl
@[simp] theorem State.setPalObp0_results (p : Palette) : (s.setPalObp0 p).results = s.results := rfl

/-! ### setPalObp1 -/

@[simp] theorem State.setPalObp1_cfg (p : Palette) : (s.setPalObp1 p).cfg = s.cfg := rfl
@[simp] theorem State.setPalObp1_reg (p : Palette) : (s.setPalObp1 p).reg = s.reg := rfl
@[simp] theorem State.setPalObp1_ly (p : Palette) : (s.setPalObp1 p).ly = s.ly := rfl
@[simp] theorem State.setPalObp1_counter (p : Palette) : (s.setPalObp1 p).counter = s.counter := rfl
@[simp] theorem State.setPalObp1_mode (p : Palette) : (s.setPalObp1 p).mode = s.mode := rfl
@[simp] theorem State.setPalObp1_vram0 (p : Palette) : (s.setPalObp1 p).vram0 = s.vram0 := rfl
@[simp] theorem State.setPalObp1_vram1 (p : Palette) : (s.setPalObp1 p).vram1 = s.vram1 := rfl
@[simp] theorem State.setPalObp1_oam (p : Palette) : (s.setPalObp1 p).oam = s.oam := rfl
@[simp] theorem State.setPalObp1_cache (p : Palette) : (s.setPalObp1 p).cache = s.cache := rfl
@[simp] theorem State.setPalObp1_dirty (p : Palette) : (s.setPalObp1 p).dirty = s.dirty := rfl
@[simp] theorem State.setPalObp1_anyDirty (p : Palette) : (s.setPalObp1 p).anyDirty = s.anyDirty := rfl
@[simp] theorem State.setPalObp1_palBg (p : Palette) : (s.setPalObp1 p).palBg = s.palBg := rfl
@[simp] theorem State.setPalObp1_palObp0 (p : Palette) : (s.setPalObp1 p).palObp0 = s.palObp0 := rfl
@[simp] theorem State.setPalObp1_palObp1 (p : Palette) : (s.setPalObp1 p).palObp1 = p := rfl
@[simp] theorem State.setPalObp1_fb (p : Palette) : (s.setPalObp1 p).fb = s.fb := rfl
@[simp] theorem State.setPalObp1_prio (p : Palette) : (s.setPalObp1 p).prio = s.prio := rfl
@[simp] theorem State.setPalObp1_spriteDone (p : Palette) : (s.setPalObp1 p).spriteDone = s.spriteDone := rfl
@[simp] theorem State.setPalObp1_inbox (p : Palette) : (s.setPalObp1 p).inbox = s.inbox := rfl
@[simp] theorem State.setPalObp1_results (p : Palette) : (s.setPalObp1 p).results = s.results := rfl

/-! ### setScreen -/

@[simp] theorem State.setScreen_cfg (f : Vector PixelRow 144) (p : Vector Nat 160) (d : Vector Bool 160) : (s.setScreen f p d).cfg = s.cfg := rfl
@[simp] theorem State.setScreen_reg (f : Vector PixelRow 144) (p : Vector Nat 160) (d : Vector Bool 160) : (s.setScreen f p d).reg = s.reg := rfl
@[simp] theorem State.setScreen_ly (f : Vector PixelRow 144) (p : Vector Nat 160) (d : Vector Bool 160) : (s.setScreen f p d).ly = s.ly := rfl
@[simp] theorem State.setScreen_counter (f : Vector PixelRow 144) (p : Vector Nat 160) (d : Vector Bool 160) : (s.setScreen f p d).counter = s.counter := rfl
@[simp] theorem State.setScreen_mode (f : Vector PixelRow 144) (p : Vector Nat 160) (d : Vector Bool 160) : (s.setScreen f p d).mode = s.mode := rfl
@[simp] theorem State.setScreen_vram0 (f : Vector PixelRow 144) (p : Vector Nat 160) (d : Vector Bool 160) : (s.setScreen f p d).vram0 = s.vram0 := rfl
@[simp] theorem State.setScreen_vram1 (f : Vector PixelRow 144) (p : Vector Nat 160) (d : Vector Bool 160) : (s.setScreen f p d).vram1 = s.vram1 := rfl
@[simp] theorem State.setScreen_oam (f : Vector PixelRow 144) (p : Vector Nat 160) (d : Vector Bool 160) : (s.setScreen f p d).oam = s.oam := rfl
@[simp] theorem State.setScreen_cache (f : Vector PixelRow 144) (p : Vector Nat 160) (d : Vector Bool 160) : (s.setScreen f p d).cache = s.cache := rfl
@[simp] theorem State.setScreen_dirty (f : Vector PixelRow 144) (p : Vector Nat 160) (d : Vector Bool 160) : (s.setScreen f p d).dirty = s.dirty := rfl
@[simp] theorem State.setScreen_anyDirty (f : Vector PixelRow 144) (p : Vector Nat 160) (d : Vector Bool 160) : (s.setScreen f p d).anyDirty = s.anyDirty := rfl
@[simp] theorem State.setScreen_palBg (f : Vector PixelRow 144) (p : Vector Nat 160) (d : Vector Bool 160) : (s.setScreen f p d).palBg = s.palBg := rfl
@[simp] theorem State.setScreen_palObp0 (f : Vector PixelRow 144) (p : Vector Nat 160) (d : Vector Bool 160) : (s.setScreen f p d).palObp0 = s.palObp0 := rfl
@[simp] theorem State.setScreen_palObp1 (f : Vector PixelRow 144) (p : Vector Nat 160) (d : Vector Bool 160) : (s.setScreen f p d).palObp1 = s.palObp1 := rfl
@[simp] theorem State.setScreen_fb (f : Vector PixelRow 144) (p : Vector Nat 160) (d : Vector Bool 160) : (s.setScreen f p d).fb = f := rfl
@[simp] theorem State.setScreen_prio (f : Vector PixelRow 144) (p : Vector Nat 160) (d : Vector Bool 160) : (s.setScreen f p d).prio = p := rfl
@[simp] theorem State.setScreen_spriteDone (f : Vector PixelRow 144) (p : Vector Nat 160) (d : Vector Bool 160) : (s.setScreen f p d).spriteDone = d := rfl
@[simp] theorem State.setScreen_inbox (f : Vector PixelRow 144) (p : Vector Nat 160) (d : Vector Bool 160) : (s.setScreen f p d).inbox = s.inbox := rfl
@[simp] theorem State.setScreen_results (f : Vector PixelRow 144) (p : Vector Nat 160) (d : Vector Bool 160) : (s.setScreen f p d).results = s.results := rfl

end Sys2Proof.Machine
end

