-- ==== Sys2Proof/Laws/Ops.lean ====
section
/-! SUPPORT. Laws/Ops.lean: everything the shared operations over VRAM, the sprite table and the IF byte can do, said once. -/

namespace Sys2Proof.Machine

/-! ### VRAM -/

/-- A one-bit bank number is 0 or 1. -/
theorem bank_cases : ∀ b : BitVec 1, b = 0 ∨ b = 1 := by decide

/-- A store replaces the two banks at most. -/
theorem storeVram_eq (s : State) (b : BitVec 1) (off : Nat) (d : Byte) :
    storeVram s b off d = (s.setVram0 (storeVram s b off d).vram0).setVram1 (storeVram s b off d).vram1 := by
  unfold storeVram; split <;> rfl

/-- A store into a canonical bank changes that byte of that bank and no other (R271). -/
theorem storeVram_read (s : State) (b bank : BitVec 1) (off k : Nat) (d : Byte) (h0 : s.vram0.wf 8192 = true)
    (h1 : s.vram1.wf 8192 = true) :
    (vramBank (storeVram s bank off d) b).read k = if b = bank ∧ k = off then d else (vramBank s b).read k := by
  rcases bank_cases bank with hk | hk <;> rcases bank_cases b with hb | hb <;> subst hk <;> subst hb
  · simp [vramBank, storeVram, Memory.wf_read_write _ off k d h0]
  · simp [vramBank, storeVram]
  · simp [vramBank, storeVram]
  · simp [vramBank, storeVram, Memory.wf_read_write _ off k d h1]

/-- A store leaves the selected bank selected. -/
@[simp] theorem storeVram_vbank (s : State) (b : BitVec 1) (off : Nat) (d : Byte) : vbank (storeVram s b off d) = vbank s := by
  unfold storeVram; split <;> rfl

@[simp] theorem storeVram_dirty (s : State) (b : BitVec 1) (off : Nat) (d : Byte) : (storeVram s b off d).dirty = s.dirty := by
  rw [storeVram_eq]; rfl
@[simp] theorem storeVram_anyDirty (s : State) (b : BitVec 1) (off : Nat) (d : Byte) :
    (storeVram s b off d).anyDirty = s.anyDirty := by
  rw [storeVram_eq]; rfl
@[simp] theorem storeVram_cache (s : State) (b : BitVec 1) (off : Nat) (d : Byte) : (storeVram s b off d).cache = s.cache := by
  rw [storeVram_eq]; rfl

/-- An invalidation replaces the flags at most. -/
theorem invalidate_eq (a : Addr) (s : State) :
    invalidate a s = s.setTiles s.cache (invalidate a s).dirty (invalidate a s).anyDirty := by
  unfold invalidate; split <;> rfl

/-- R204: the dirty flags after an invalidation. -/
theorem invalidate_dirty (a : Addr) (s : State) (t : Fin 384) :
    (invalidate a s).dirty[t] = true ↔
      s.dirty[t] = true ∨ (vbank s = 0 ∧ vramOffset a ≤ 0x17FF ∧ t.val = vramOffset a / 16) := by
  unfold invalidate
  by_cases h : vbank s = 0 ∧ vramOffset a ≤ 0x17FF
  · rw [dif_pos h]
    by_cases ht : vramOffset a / 16 = t.val
    · simp [h.1, h.2, ht]
    · simp [h.1, h.2, ht, Ne.symm ht]
  · rw [dif_neg h]
    exact ⟨Or.inl, fun h' => h'.elim id fun h2 => absurd ⟨h2.1, h2.2.1⟩ h⟩

/-- R204: the aggregate flag after an invalidation. -/
theorem invalidate_anyDirty (a : Addr) (s : State) :
    (invalidate a s).anyDirty = true ↔ s.anyDirty = true ∨ (vbank s = 0 ∧ vramOffset a ≤ 0x17FF) := by
  unfold invalidate
  by_cases h : vbank s = 0 ∧ vramOffset a ≤ 0x17FF
  · rw [dif_pos h]; simp [h.1, h.2]
  · rw [dif_neg h]; exact ⟨Or.inl, fun h' => h'.elim id fun h2 => absurd h2 h⟩

/-- A VRAM write replaces the two banks and the flags at most (R271, R273). -/
theorem vramWrite_eq (a : Addr) (d : Byte) (s : State) :
    vramWrite a d s = ((s.setVram0 (vramWrite a d s).vram0).setVram1 (vramWrite a d s).vram1).setTiles s.cache
      (vramWrite a d s).dirty (vramWrite a d s).anyDirty := by
  unfold vramWrite
  split
  · rw [invalidate_eq, storeVram_eq]; rfl
  · rfl

/-- A VRAM write inside the window. -/
theorem vramWrite_in (a : Addr) (d : Byte) (s : State) (h : inVramWindow a = true) :
    vramWrite a d s = invalidate a (storeVram s (vbank s) (vramOffset a) d) := by
  unfold vramWrite; rw [if_pos h]

/-- A VRAM write outside the window changes nothing (R273). -/
theorem vramWrite_out (a : Addr) (d : Byte) (s : State) (h : inVramWindow a = false) : vramWrite a d s = s := by
  unfold vramWrite; rw [if_neg (by simp [h])]

/-- A window offset is a bank offset. -/
theorem vramOffset_lt (a : Addr) (h : inVramWindow a = true) : vramOffset a < 8192 := by
  simp only [inVramWindow, Bool.and_eq_true, decide_eq_true_eq] at h
  unfold vramOffset; omega

/-! ### The sprite table -/

/-- An OAM write replaces the sprite table at most. -/
theorem oamWrite_eq (o d : Byte) (s : State) : oamWrite o d s = s.setOam (oamWrite o d s).oam := by
  unfold oamWrite; split <;> rfl

/-- R275: a byte of the table after a write. -/
theorem oamWrite_read (o d : Byte) (s : State) (k : Nat) (h : s.oam.wf 160 = true) :
    (oamWrite o d s).oam.read k = if o.toNat ≤ 159 ∧ k = o.toNat then d else s.oam.read k := by
  unfold oamWrite
  by_cases ho : o.toNat ≤ 159
  · simp [ho, Memory.wf_read_write _ _ _ _ h]
  · simp [ho]

/-! ### The IF byte -/

/-- R307: a V-blank request raises bit 0 and no other. -/
theorem request_vblank (e : Bool) (f : Byte) (k : Nat) :
    (request e vblankRequest f).getLsbD k = (f.getLsbD k || (e && decide (k = 0))) := by
  unfold request vblankRequest
  cases e
  · simp
  · by_cases hk : k < 8
    · interval_cases k <;> simp
    · have h0 : ¬ k = 0 := by omega
      simp only [if_true, BitVec.getLsbD_of_ge _ k (Nat.not_lt.mp hk), h0, decide_false, Bool.and_false, Bool.or_false]

/-- R307: a STAT request raises bit 1 and no other. -/
theorem request_stat (e : Bool) (f : Byte) (k : Nat) :
    (request e statRequest f).getLsbD k = (f.getLsbD k || (e && decide (k = 1))) := by
  unfold request statRequest
  cases e
  · simp
  · by_cases hk : k < 8
    · interval_cases k <;> simp
    · have h1 : ¬ k = 1 := by omega
      simp only [if_true, BitVec.getLsbD_of_ge _ k (Nat.not_lt.mp hk), h1, decide_false, Bool.and_false, Bool.or_false]

end Sys2Proof.Machine
end

