-- ==== Sys2Proof/Laws/PerInstr.lean ====
section
/-! SUPPORT. Laws/PerInstr.lean: for every instruction of spec/opcode_table.json, the row of its mnemonic covers its
transaction: the table's mask and match and the operand ranges of WellFormed.lean say the same (30_encoding.md R92, R107). -/

namespace Sys2Proof.Laws

/-- The top bits of a 16-bit number, kept by a mask of ones from bit `k` up, are its quotient by `2 ^ k`. -/
theorem and_high (n k m : Nat) : n &&& (2 ^ k * m) = 2 ^ k * (n / 2 ^ k &&& m) := by
  have hdiv : (n &&& (2 ^ k * m)) / 2 ^ k = n / 2 ^ k &&& m := by
    rw [Nat.and_div_two_pow, Nat.mul_div_cancel_left m (Nat.two_pow_pos k)]
  have hmod : (n &&& (2 ^ k * m)) % 2 ^ k = 0 := by
    rw [Nat.and_mod_two_pow, Nat.mul_mod_right, Nat.and_zero]
  rw [← hdiv]
  exact (Nat.mul_div_cancel' (Nat.dvd_of_mod_eq_zero hmod)).symm

end Sys2Proof.Laws

namespace Sys2Proof.Laws.TableRow

/-- The table has a row of the instruction's mnemonic and interface whose selector accepts its operand, if the operand is
well formed. -/
def Statement (i : Instr) : Prop :=
  i.wf = true → ∃ s : Selector, ⟨i.mnemonic, (encode i).interface, s⟩ ∈ opcodeTable ∧ s.accepts (encode i).key = true

/-- A byte in a range the masks of the table describe is accepted by them. -/
theorem byte_ranges : ∀ p : Byte,
    (inRange 0x00 0x3F p.toNat = true → (Selector.bits 0xC0 0x00).accepts p.toNat = true) ∧
    (inRange 0x50 0x5F p.toNat = true → (Selector.bits 0xF0 0x50).accepts p.toNat = true) ∧
    (inRange 0x60 0x7F p.toNat = true → (Selector.bits 0xE0 0x60).accepts p.toNat = true) ∧
    (inRange 0x80 0xFF p.toNat = true → (Selector.bits 0x80 0x80).accepts p.toNat = true) ∧
    (inRange 0x00 0x7F p.toNat = true → (Selector.bits 0x80 0x00).accepts p.toNat = true) ∧
    (inRange 0x80 0x9F p.toNat = true → (Selector.bits 0xE0 0x80).accepts p.toNat = true) ∧
    (inRange 0xA0 0xBF p.toNat = true → (Selector.bits 0xE0 0xA0).accepts p.toNat = true) ∧
    (inRange 0xC0 0xFF p.toNat = true → (Selector.bits 0xC0 0xC0).accepts p.toNat = true) := by
  decide +kernel

/-- An address in one of the four ranges is accepted by the mask of its rows. -/
theorem addr_ranges (a : Addr) :
    (inRange 0x8000 0x9FFF a.toNat = true → (Selector.bits 0xE000 0x8000).accepts a.toNat = true) ∧
    (inRange 0x0000 0x7FFF a.toNat = true → (Selector.bits 0x8000 0x0000).accepts a.toNat = true) ∧
    (inRange 0xA000 0xBFFF a.toNat = true → (Selector.bits 0xE000 0xA000).accepts a.toNat = true) ∧
    (inRange 0xC000 0xFFFF a.toNat = true → (Selector.bits 0xC000 0xC000).accepts a.toNat = true) := by
  have h13 : ∀ m, a.toNat &&& (8192 * m) = 8192 * (a.toNat / 8192 &&& m) := fun m => and_high a.toNat 13 m
  simp only [inRange, Selector.accepts, Bool.and_eq_true, decide_eq_true_eq, beq_iff_eq]
  have hq : ∀ q, a.toNat / 8192 = q → ∀ m v, 8192 * (q &&& m) = v → a.toNat &&& (8192 * m) = v := by
    intro q h m v hv; rw [h13, h, hv]
  refine ⟨fun h => hq 4 (by omega) 7 _ rfl, fun h => ?_, fun h => hq 5 (by omega) 7 _ rfl, fun h => ?_⟩
  · have : a.toNat / 8192 = 0 ∨ a.toNat / 8192 = 1 ∨ a.toNat / 8192 = 2 ∨ a.toNat / 8192 = 3 := by omega
    rcases this with h | h | h | h <;> exact hq _ h 4 _ rfl
  · have : a.toNat / 8192 = 6 ∨ a.toNat / 8192 = 7 := by have := a.isLt; omega
    rcases this with h | h <;> exact hq _ h 6 _ rfl

theorem rdLcdc : Statement .rdLcdc := fun _ =>
  ⟨.bits 0xFF 0x40, show (⟨"RD_LCDC", .portR, .bits 0xFF 0x40⟩ : Sys2Proof.TableRow) ∈ opcodeTable by decide,
    show (Selector.bits 0xFF 0x40).accepts (0x40 : Byte).toNat = true by decide⟩

theorem wrLcdc (d : Byte) : Statement (.wrLcdc d) := fun _ =>
  ⟨.bits 0xFF 0x40, show (⟨"WR_LCDC", .portW, .bits 0xFF 0x40⟩ : Sys2Proof.TableRow) ∈ opcodeTable by decide,
    show (Selector.bits 0xFF 0x40).accepts (0x40 : Byte).toNat = true by decide⟩

theorem rdStat : Statement .rdStat := fun _ =>
  ⟨.bits 0xFF 0x41, show (⟨"RD_STAT", .portR, .bits 0xFF 0x41⟩ : Sys2Proof.TableRow) ∈ opcodeTable by decide,
    show (Selector.bits 0xFF 0x41).accepts (0x41 : Byte).toNat = true by decide⟩

theorem wrStat (d : Byte) : Statement (.wrStat d) := fun _ =>
  ⟨.bits 0xFF 0x41, show (⟨"WR_STAT", .portW, .bits 0xFF 0x41⟩ : Sys2Proof.TableRow) ∈ opcodeTable by decide,
    show (Selector.bits 0xFF 0x41).accepts (0x41 : Byte).toNat = true by decide⟩

theorem rdScy : Statement .rdScy := fun _ =>
  ⟨.bits 0xFF 0x42, show (⟨"RD_SCY", .portR, .bits 0xFF 0x42⟩ : Sys2Proof.TableRow) ∈ opcodeTable by decide,
    show (Selector.bits 0xFF 0x42).accepts (0x42 : Byte).toNat = true by decide⟩

theorem wrScy (d : Byte) : Statement (.wrScy d) := fun _ =>
  ⟨.bits 0xFF 0x42, show (⟨"WR_SCY", .portW, .bits 0xFF 0x42⟩ : Sys2Proof.TableRow) ∈ opcodeTable by decide,
    show (Selector.bits 0xFF 0x42).accepts (0x42 : Byte).toNat = true by decide⟩

theorem rdScx : Statement .rdScx := fun _ =>
  ⟨.bits 0xFF 0x43, show (⟨"RD_SCX", .portR, .bits 0xFF 0x43⟩ : Sys2Proof.TableRow) ∈ opcodeTable by decide,
    show (Selector.bits 0xFF 0x43).accepts (0x43 : Byte).toNat = true by decide⟩

theorem wrScx (d : Byte) : Statement (.wrScx d) := fun _ =>
  ⟨.bits 0xFF 0x43, show (⟨"WR_SCX", .portW, .bits 0xFF 0x43⟩ : Sys2Proof.TableRow) ∈ opcodeTable by decide,
    show (Selector.bits 0xFF 0x43).accepts (0x43 : Byte).toNat = true by decide⟩

theorem rdLy : Statement .rdLy := fun _ =>
  ⟨.bits 0xFF 0x44, show (⟨"RD_LY", .portR, .bits 0xFF 0x44⟩ : Sys2Proof.TableRow) ∈ opcodeTable by decide,
    show (Selector.bits 0xFF 0x44).accepts (0x44 : Byte).toNat = true by decide⟩

theorem wrLy (d : Byte) : Statement (.wrLy d) := fun _ =>
  ⟨.bits 0xFF 0x44, show (⟨"WR_LY", .portW, .bits 0xFF 0x44⟩ : Sys2Proof.TableRow) ∈ opcodeTable by decide,
    show (Selector.bits 0xFF 0x44).accepts (0x44 : Byte).toNat = true by decide⟩

theorem rdLyc : Statement .rdLyc := fun _ =>
  ⟨.bits 0xFF 0x45, show (⟨"RD_LYC", .portR, .bits 0xFF 0x45⟩ : Sys2Proof.TableRow) ∈ opcodeTable by decide,
    show (Selector.bits 0xFF 0x45).accepts (0x45 : Byte).toNat = true by decide⟩

theorem wrLyc (d : Byte) : Statement (.wrLyc d) := fun _ =>
  ⟨.bits 0xFF 0x45, show (⟨"WR_LYC", .portW, .bits 0xFF 0x45⟩ : Sys2Proof.TableRow) ∈ opcodeTable by decide,
    show (Selector.bits 0xFF 0x45).accepts (0x45 : Byte).toNat = true by decide⟩

theorem rdBgp : Statement .rdBgp := fun _ =>
  ⟨.bits 0xFF 0x47, show (⟨"RD_BGP", .portR, .bits 0xFF 0x47⟩ : Sys2Proof.TableRow) ∈ opcodeTable by decide,
    show (Selector.bits 0xFF 0x47).accepts (0x47 : Byte).toNat = true by decide⟩

theorem wrBgp (d : Byte) : Statement (.wrBgp d) := fun _ =>
  ⟨.bits 0xFF 0x47, show (⟨"WR_BGP", .portW, .bits 0xFF 0x47⟩ : Sys2Proof.TableRow) ∈ opcodeTable by decide,
    show (Selector.bits 0xFF 0x47).accepts (0x47 : Byte).toNat = true by decide⟩

theorem rdObp0 : Statement .rdObp0 := fun _ =>
  ⟨.bits 0xFF 0x48, show (⟨"RD_OBP0", .portR, .bits 0xFF 0x48⟩ : Sys2Proof.TableRow) ∈ opcodeTable by decide,
    show (Selector.bits 0xFF 0x48).accepts (0x48 : Byte).toNat = true by decide⟩

theorem wrObp0 (d : Byte) : Statement (.wrObp0 d) := fun _ =>
  ⟨.bits 0xFF 0x48, show (⟨"WR_OBP0", .portW, .bits 0xFF 0x48⟩ : Sys2Proof.TableRow) ∈ opcodeTable by decide,
    show (Selector.bits 0xFF 0x48).accepts (0x48 : Byte).toNat = true by decide⟩

theorem rdObp1 : Statement .rdObp1 := fun _ =>
  ⟨.bits 0xFF 0x49, show (⟨"RD_OBP1", .portR, .bits 0xFF 0x49⟩ : Sys2Proof.TableRow) ∈ opcodeTable by decide,
    show (Selector.bits 0xFF 0x49).accepts (0x49 : Byte).toNat = true by decide⟩

theorem wrObp1 (d : Byte) : Statement (.wrObp1 d) := fun _ =>
  ⟨.bits 0xFF 0x49, show (⟨"WR_OBP1", .portW, .bits 0xFF 0x49⟩ : Sys2Proof.TableRow) ∈ opcodeTable by decide,
    show (Selector.bits 0xFF 0x49).accepts (0x49 : Byte).toNat = true by decide⟩

theorem rdWy : Statement .rdWy := fun _ =>
  ⟨.bits 0xFF 0x4A, show (⟨"RD_WY", .portR, .bits 0xFF 0x4A⟩ : Sys2Proof.TableRow) ∈ opcodeTable by decide,
    show (Selector.bits 0xFF 0x4A).accepts (0x4A : Byte).toNat = true by decide⟩

theorem wrWy (d : Byte) : Statement (.wrWy d) := fun _ =>
  ⟨.bits 0xFF 0x4A, show (⟨"WR_WY", .portW, .bits 0xFF 0x4A⟩ : Sys2Proof.TableRow) ∈ opcodeTable by decide,
    show (Selector.bits 0xFF 0x4A).accepts (0x4A : Byte).toNat = true by decide⟩

theorem rdWx : Statement .rdWx := fun _ =>
  ⟨.bits 0xFF 0x4B, show (⟨"RD_WX", .portR, .bits 0xFF 0x4B⟩ : Sys2Proof.TableRow) ∈ opcodeTable by decide,
    show (Selector.bits 0xFF 0x4B).accepts (0x4B : Byte).toNat = true by decide⟩

theorem wrWx (d : Byte) : Statement (.wrWx d) := fun _ =>
  ⟨.bits 0xFF 0x4B, show (⟨"WR_WX", .portW, .bits 0xFF 0x4B⟩ : Sys2Proof.TableRow) ∈ opcodeTable by decide,
    show (Selector.bits 0xFF 0x4B).accepts (0x4B : Byte).toNat = true by decide⟩

theorem rdVbk : Statement .rdVbk := fun _ =>
  ⟨.bits 0xFF 0x4F, show (⟨"RD_VBK", .portR, .bits 0xFF 0x4F⟩ : Sys2Proof.TableRow) ∈ opcodeTable by decide,
    show (Selector.bits 0xFF 0x4F).accepts (0x4F : Byte).toNat = true by decide⟩

theorem wrVbk (d : Byte) : Statement (.wrVbk d) := fun _ =>
  ⟨.bits 0xFF 0x4F, show (⟨"WR_VBK", .portW, .bits 0xFF 0x4F⟩ : Sys2Proof.TableRow) ∈ opcodeTable by decide,
    show (Selector.bits 0xFF 0x4F).accepts (0x4F : Byte).toNat = true by decide⟩

theorem rdUnmapped00To3F (p : Byte) : Statement (.rdUnmapped00To3F p) := fun h =>
  ⟨.bits 0xC0 0x00, show (⟨"RD_UNMAPPED_00_3F", .portR, .bits 0xC0 0x00⟩ : Sys2Proof.TableRow) ∈ opcodeTable by decide, (byte_ranges p).1 h⟩

theorem wrUnmapped00To3F (p : Byte) (d : Byte) : Statement (.wrUnmapped00To3F p d) := fun h =>
  ⟨.bits 0xC0 0x00, show (⟨"WR_UNMAPPED_00_3F", .portW, .bits 0xC0 0x00⟩ : Sys2Proof.TableRow) ∈ opcodeTable by decide, (byte_ranges p).1 h⟩

theorem rdUnmapped46 : Statement .rdUnmapped46 := fun _ =>
  ⟨.bits 0xFF 0x46, show (⟨"RD_UNMAPPED_46", .portR, .bits 0xFF 0x46⟩ : Sys2Proof.TableRow) ∈ opcodeTable by decide,
    show (Selector.bits 0xFF 0x46).accepts (0x46 : Byte).toNat = true by decide⟩

theorem wrUnmapped46 (d : Byte) : Statement (.wrUnmapped46 d) := fun _ =>
  ⟨.bits 0xFF 0x46, show (⟨"WR_UNMAPPED_46", .portW, .bits 0xFF 0x46⟩ : Sys2Proof.TableRow) ∈ opcodeTable by decide,
    show (Selector.bits 0xFF 0x46).accepts (0x46 : Byte).toNat = true by decide⟩

theorem rdUnmapped4C : Statement .rdUnmapped4C := fun _ =>
  ⟨.bits 0xFF 0x4C, show (⟨"RD_UNMAPPED_4C", .portR, .bits 0xFF 0x4C⟩ : Sys2Proof.TableRow) ∈ opcodeTable by decide,
    show (Selector.bits 0xFF 0x4C).accepts (0x4C : Byte).toNat = true by decide⟩

theorem wrUnmapped4C (d : Byte) : Statement (.wrUnmapped4C d) := fun _ =>
  ⟨.bits 0xFF 0x4C, show (⟨"WR_UNMAPPED_4C", .portW, .bits 0xFF 0x4C⟩ : Sys2Proof.TableRow) ∈ opcodeTable by decide,
    show (Selector.bits 0xFF 0x4C).accepts (0x4C : Byte).toNat = true by decide⟩

theorem rdUnmapped4D : Statement .rdUnmapped4D := fun _ =>
  ⟨.bits 0xFF 0x4D, show (⟨"RD_UNMAPPED_4D", .portR, .bits 0xFF 0x4D⟩ : Sys2Proof.TableRow) ∈ opcodeTable by decide,
    show (Selector.bits 0xFF 0x4D).accepts (0x4D : Byte).toNat = true by decide⟩

theorem wrUnmapped4D (d : Byte) : Statement (.wrUnmapped4D d) := fun _ =>
  ⟨.bits 0xFF 0x4D, show (⟨"WR_UNMAPPED_4D", .portW, .bits 0xFF 0x4D⟩ : Sys2Proof.TableRow) ∈ opcodeTable by decide,
    show (Selector.bits 0xFF 0x4D).accepts (0x4D : Byte).toNat = true by decide⟩

theorem rdUnmapped4E : Statement .rdUnmapped4E := fun _ =>
  ⟨.bits 0xFF 0x4E, show (⟨"RD_UNMAPPED_4E", .portR, .bits 0xFF 0x4E⟩ : Sys2Proof.TableRow) ∈ opcodeTable by decide,
    show (Selector.bits 0xFF 0x4E).accepts (0x4E : Byte).toNat = true by decide⟩

theorem wrUnmapped4E (d : Byte) : Statement (.wrUnmapped4E d) := fun _ =>
  ⟨.bits 0xFF 0x4E, show (⟨"WR_UNMAPPED_4E", .portW, .bits 0xFF 0x4E⟩ : Sys2Proof.TableRow) ∈ opcodeTable by decide,
    show (Selector.bits 0xFF 0x4E).accepts (0x4E : Byte).toNat = true by decide⟩

theorem rdUnmapped50To5F (p : Byte) : Statement (.rdUnmapped50To5F p) := fun h =>
  ⟨.bits 0xF0 0x50, show (⟨"RD_UNMAPPED_50_5F", .portR, .bits 0xF0 0x50⟩ : Sys2Proof.TableRow) ∈ opcodeTable by decide, (byte_ranges p).2.1 h⟩

theorem wrUnmapped50To5F (p : Byte) (d : Byte) : Statement (.wrUnmapped50To5F p d) := fun h =>
  ⟨.bits 0xF0 0x50, show (⟨"WR_UNMAPPED_50_5F", .portW, .bits 0xF0 0x50⟩ : Sys2Proof.TableRow) ∈ opcodeTable by decide, (byte_ranges p).2.1 h⟩

theorem rdUnmapped60To7F (p : Byte) : Statement (.rdUnmapped60To7F p) := fun h =>
  ⟨.bits 0xE0 0x60, show (⟨"RD_UNMAPPED_60_7F", .portR, .bits 0xE0 0x60⟩ : Sys2Proof.TableRow) ∈ opcodeTable by decide, (byte_ranges p).2.2.1 h⟩

theorem wrUnmapped60To7F (p : Byte) (d : Byte) : Statement (.wrUnmapped60To7F p d) := fun h =>
  ⟨.bits 0xE0 0x60, show (⟨"WR_UNMAPPED_60_7F", .portW, .bits 0xE0 0x60⟩ : Sys2Proof.TableRow) ∈ opcodeTable by decide, (byte_ranges p).2.2.1 h⟩

theorem rdUnmapped80ToFF (p : Byte) : Statement (.rdUnmapped80ToFF p) := fun h =>
  ⟨.bits 0x80 0x80, show (⟨"RD_UNMAPPED_80_FF", .portR, .bits 0x80 0x80⟩ : Sys2Proof.TableRow) ∈ opcodeTable by decide, (byte_ranges p).2.2.2.1 h⟩

theorem wrUnmapped80ToFF (p : Byte) (d : Byte) : Statement (.wrUnmapped80ToFF p d) := fun h =>
  ⟨.bits 0x80 0x80, show (⟨"WR_UNMAPPED_80_FF", .portW, .bits 0x80 0x80⟩ : Sys2Proof.TableRow) ∈ opcodeTable by decide, (byte_ranges p).2.2.2.1 h⟩

theorem vramRd (a : Addr) : Statement (.vramRd a) := fun h =>
  ⟨.bits 0xE000 0x8000, show (⟨"VRAM_RD", .vramR, .bits 0xE000 0x8000⟩ : Sys2Proof.TableRow) ∈ opcodeTable by decide, (addr_ranges a).1 h⟩

theorem vramWr (a : Addr) (d : Byte) : Statement (.vramWr a d) := fun h =>
  ⟨.bits 0xE000 0x8000, show (⟨"VRAM_WR", .vramW, .bits 0xE000 0x8000⟩ : Sys2Proof.TableRow) ∈ opcodeTable by decide, (addr_ranges a).1 h⟩

theorem vramRdOut0000To7FFF (a : Addr) : Statement (.vramRdOut0000To7FFF a) := fun h =>
  ⟨.bits 0x8000 0x0000, show (⟨"VRAM_RD_OUT_0000_7FFF", .vramR, .bits 0x8000 0x0000⟩ : Sys2Proof.TableRow) ∈ opcodeTable by decide, (addr_ranges a).2.1 h⟩

theorem vramWrOut0000To7FFF (a : Addr) (d : Byte) : Statement (.vramWrOut0000To7FFF a d) := fun h =>
  ⟨.bits 0x8000 0x0000, show (⟨"VRAM_WR_OUT_0000_7FFF", .vramW, .bits 0x8000 0x0000⟩ : Sys2Proof.TableRow) ∈ opcodeTable by decide, (addr_ranges a).2.1 h⟩

theorem vramRdOutA000ToBFFF (a : Addr) : Statement (.vramRdOutA000ToBFFF a) := fun h =>
  ⟨.bits 0xE000 0xA000, show (⟨"VRAM_RD_OUT_A000_BFFF", .vramR, .bits 0xE000 0xA000⟩ : Sys2Proof.TableRow) ∈ opcodeTable by decide, (addr_ranges a).2.2.1 h⟩

theorem vramWrOutA000ToBFFF (a : Addr) (d : Byte) : Statement (.vramWrOutA000ToBFFF a d) := fun h =>
  ⟨.bits 0xE000 0xA000, show (⟨"VRAM_WR_OUT_A000_BFFF", .vramW, .bits 0xE000 0xA000⟩ : Sys2Proof.TableRow) ∈ opcodeTable by decide, (addr_ranges a).2.2.1 h⟩

theorem vramRdOutC000ToFFFF (a : Addr) : Statement (.vramRdOutC000ToFFFF a) := fun h =>
  ⟨.bits 0xC000 0xC000, show (⟨"VRAM_RD_OUT_C000_FFFF", .vramR, .bits 0xC000 0xC000⟩ : Sys2Proof.TableRow) ∈ opcodeTable by decide, (addr_ranges a).2.2.2 h⟩

theorem vramWrOutC000ToFFFF (a : Addr) (d : Byte) : Statement (.vramWrOutC000ToFFFF a d) := fun h =>
  ⟨.bits 0xC000 0xC000, show (⟨"VRAM_WR_OUT_C000_FFFF", .vramW, .bits 0xC000 0xC000⟩ : Sys2Proof.TableRow) ∈ opcodeTable by decide, (addr_ranges a).2.2.2 h⟩

theorem oamRd00To7F (o : Byte) : Statement (.oamRd00To7F o) := fun h =>
  ⟨.bits 0x80 0x00, show (⟨"OAM_RD_00_7F", .oamR, .bits 0x80 0x00⟩ : Sys2Proof.TableRow) ∈ opcodeTable by decide, (byte_ranges o).2.2.2.2.1 h⟩

theorem oamWr00To7F (o : Byte) (d : Byte) : Statement (.oamWr00To7F o d) := fun h =>
  ⟨.bits 0x80 0x00, show (⟨"OAM_WR_00_7F", .oamW, .bits 0x80 0x00⟩ : Sys2Proof.TableRow) ∈ opcodeTable by decide, (byte_ranges o).2.2.2.2.1 h⟩

theorem oamRd80To9F (o : Byte) : Statement (.oamRd80To9F o) := fun h =>
  ⟨.bits 0xE0 0x80, show (⟨"OAM_RD_80_9F", .oamR, .bits 0xE0 0x80⟩ : Sys2Proof.TableRow) ∈ opcodeTable by decide, (byte_ranges o).2.2.2.2.2.1 h⟩

theorem oamWr80To9F (o : Byte) (d : Byte) : Statement (.oamWr80To9F o d) := fun h =>
  ⟨.bits 0xE0 0x80, show (⟨"OAM_WR_80_9F", .oamW, .bits 0xE0 0x80⟩ : Sys2Proof.TableRow) ∈ opcodeTable by decide, (byte_ranges o).2.2.2.2.2.1 h⟩

theorem oamRdOutA0ToBF (o : Byte) : Statement (.oamRdOutA0ToBF o) := fun h =>
  ⟨.bits 0xE0 0xA0, show (⟨"OAM_RD_OUT_A0_BF", .oamR, .bits 0xE0 0xA0⟩ : Sys2Proof.TableRow) ∈ opcodeTable by decide, (byte_ranges o).2.2.2.2.2.2.1 h⟩

theorem oamWrOutA0ToBF (o : Byte) (d : Byte) : Statement (.oamWrOutA0ToBF o d) := fun h =>
  ⟨.bits 0xE0 0xA0, show (⟨"OAM_WR_OUT_A0_BF", .oamW, .bits 0xE0 0xA0⟩ : Sys2Proof.TableRow) ∈ opcodeTable by decide, (byte_ranges o).2.2.2.2.2.2.1 h⟩

theorem oamRdOutC0ToFF (o : Byte) : Statement (.oamRdOutC0ToFF o) := fun h =>
  ⟨.bits 0xC0 0xC0, show (⟨"OAM_RD_OUT_C0_FF", .oamR, .bits 0xC0 0xC0⟩ : Sys2Proof.TableRow) ∈ opcodeTable by decide, (byte_ranges o).2.2.2.2.2.2.2 h⟩

theorem oamWrOutC0ToFF (o : Byte) (d : Byte) : Statement (.oamWrOutC0ToFF o d) := fun h =>
  ⟨.bits 0xC0 0xC0, show (⟨"OAM_WR_OUT_C0_FF", .oamW, .bits 0xC0 0xC0⟩ : Sys2Proof.TableRow) ∈ opcodeTable by decide, (byte_ranges o).2.2.2.2.2.2.2 h⟩

theorem step (n : Nat) (f : Byte) : Statement (.step n f) := fun h =>
  ⟨.cyclesAtMost 456, show (⟨"STEP", .step, .cyclesAtMost 456⟩ : Sys2Proof.TableRow) ∈ opcodeTable by decide, h⟩

theorem stepRefused (n : Nat) (f : Byte) : Statement (.stepRefused n f) := fun h =>
  ⟨.cyclesOver 456, show (⟨"STEP_REFUSED", .step, .cyclesOver 456⟩ : Sys2Proof.TableRow) ∈ opcodeTable by decide, h⟩

theorem frameRd : Statement .frameRd := fun _ =>
  ⟨.always, show (⟨"FRAME_RD", .fbR, .always⟩ : Sys2Proof.TableRow) ∈ opcodeTable by decide, rfl⟩

end Sys2Proof.Laws.TableRow
end

