-- ==== Sys2Proof/Laws/Run.lean ====
section
/-! SUPPORT. Laws/Run.lean: how a run of operations goes and what it is observed to give (70_reset_and_hazards.md R347),
operation by operation and across an append. -/

namespace Sys2Proof.Machine

/-- An operation runs the instruction it selects. -/
theorem runOperation_eq (s : State) (t : Transaction) : runOperation s t = exec (decode t) (s.setInbox []) := rfl

@[simp] theorem runOperations_nil (s : State) : runOperations s [] = (s, none) := rfl

theorem runOperations_cons_next {s s' : State} {t : Transaction} (ht : runOperation s t = .next s')
    (rest : List Transaction) : runOperations s (t :: rest) = runOperations s' rest := by
  rw [runOperations, ht]

theorem runOperations_cons_fault {s : State} {t : Transaction} {r : Fault} (ht : runOperation s t = .fault r)
    (rest : List Transaction) : runOperations s (t :: rest) = (s, some (.fault r)) := by
  rw [runOperations, ht]

theorem runOperations_cons_refused {s : State} {t : Transaction} {r : Refusal} (ht : runOperation s t = .refused r)
    (rest : List Transaction) : runOperations s (t :: rest) = (s, some (.refused r)) := by
  rw [runOperations, ht]

/-- Operations that end normally are followed by the rest of the run, from where they ended. -/
theorem runOperations_append {s s' : State} {ts : List Transaction} (he : runOperations s ts = (s', none))
    (rest : List Transaction) : runOperations s (ts ++ rest) = runOperations s' rest := by
  induction ts generalizing s with
  | nil =>
    cases he
    rfl
  | cons t ts ih =>
    cases ht : runOperation s t with
    | next s1 => exact (runOperations_cons_next ht _).trans (ih ((runOperations_cons_next ht ts).symm.trans he))
    | fault r => exact absurd ((runOperations_cons_fault ht ts).symm.trans he) (by simp)
    | refused r => exact absurd ((runOperations_cons_refused ht ts).symm.trans he) (by simp)

/-- A run that ends normally is observed by its results and its final state. -/
theorem observeOperations_of_next {s s' : State} {ts : List Transaction} (he : runOperations s ts = (s', none)) :
    observeOperations s ts = { sequence := s'.answers.map .result, final := some s' } := by
  rw [observeOperations, he]
  rfl

/-- A run that meets a refused operation is observed by the results before it and the refusal last. -/
theorem observeOperations_of_refused {s s' : State} {ts : List Transaction} {t : Transaction} {r : Refusal}
    (he : runOperations s ts = (s', none)) (ht : runOperation s' t = .refused r) (rest : List Transaction) :
    observeOperations s (ts ++ t :: rest) =
      { sequence := s'.answers.map .result ++ [.refused r], final := none } := by
  rw [observeOperations, runOperations_append he, runOperations_cons_refused ht]
  rfl

/-- A run that meets a faulting operation is observed by the results before it and the fault last. -/
theorem observeOperations_of_fault {s s' : State} {ts : List Transaction} {t : Transaction} {r : Fault}
    (he : runOperations s ts = (s', none)) (ht : runOperation s' t = .fault r) (rest : List Transaction) :
    observeOperations s (ts ++ t :: rest) = { sequence := s'.answers.map .result ++ [.fault r], final := none } := by
  rw [observeOperations, runOperations_append he, runOperations_cons_fault ht]
  rfl

end Sys2Proof.Machine
end

