-- ==== Sys2Proof/Laws/Program.lean ====
section
/-! SUPPORT. Laws/Program.lean: how a program runs and what its run is observed to give (70_reset_and_hazards.md R347), line
by line and across an append. -/

namespace Sys2Proof.Machine

@[simp] theorem runUntil_nil (h : HostRun) : runUntil h [] = (h, none) := rfl

theorem runUntil_cons_next {h h' : HostRun} {l : ProgramLine} (hl : runLine h l = .next h') (rest : List ProgramLine) :
    runUntil h (l :: rest) = runUntil h' rest := by
  rw [runUntil, hl]

theorem runUntil_cons_fault {h : HostRun} {l : ProgramLine} {r : Fault} (hl : runLine h l = .fault r)
    (rest : List ProgramLine) : runUntil h (l :: rest) = (h, some (.fault r)) := by
  rw [runUntil, hl]

theorem runUntil_cons_refused {h : HostRun} {l : ProgramLine} {r : Refusal} (hl : runLine h l = .refused r)
    (rest : List ProgramLine) : runUntil h (l :: rest) = (h, some (.refused r)) := by
  rw [runUntil, hl]

/-- A program ends normally exactly when nothing stopped its run. -/
theorem runProgram_next {h h' : HostRun} {ls : List ProgramLine} :
    runProgram h ls = .next h' ↔ runUntil h ls = (h', none) := by
  unfold runProgram
  rcases runUntil h ls with ⟨h1, _ | r | r⟩ <;> simp

@[simp] theorem runProgram_nil (h : HostRun) : runProgram h [] = .next h := rfl

theorem runProgram_cons_next {h h' : HostRun} {l : ProgramLine} (hl : runLine h l = .next h') (rest : List ProgramLine) :
    runProgram h (l :: rest) = runProgram h' rest := by
  rw [runProgram, runUntil_cons_next hl, runProgram]

theorem runProgram_cons_refused {h : HostRun} {l : ProgramLine} {r : Refusal} (hl : runLine h l = .refused r)
    (rest : List ProgramLine) : runProgram h (l :: rest) = .refused r := by
  rw [runProgram, runUntil_cons_refused hl]

/-! ### A program's run is the run of its operations -/

@[simp] theorem HostRun.after_st (h : HostRun) (l : ProgramLine) (s : State) : (h.after l s).st = s := by
  unfold HostRun.after
  split <;> rfl

/-- A line ends as the operation it issues. -/
theorem runLine_next {h h' : HostRun} {l : ProgramLine} (hl : runLine h l = .next h') :
    runOperation h.st (l.transaction h.ifByte) = .next h'.st := by
  unfold runLine at hl
  split at hl
  · rename_i s hs
    cases hl
    rw [hs, HostRun.after_st]
  · cases hl
  · cases hl

theorem runLine_fault {h : HostRun} {l : ProgramLine} {r : Fault} (hl : runLine h l = .fault r) :
    runOperation h.st (l.transaction h.ifByte) = .fault r := by
  unfold runLine at hl
  split at hl
  · cases hl
  · rename_i r' hr
    cases hl
    exact hr
  · cases hl

theorem runLine_refused {h : HostRun} {l : ProgramLine} {r : Refusal} (hl : runLine h l = .refused r) :
    runOperation h.st (l.transaction h.ifByte) = .refused r := by
  unfold runLine at hl
  split at hl
  · cases hl
  · cases hl
  · rename_i r' hr
    cases hl
    exact hr

/-- Running a program is running the operations it issues. -/
theorem runUntil_eq_runOperations (h : HostRun) (ls : List ProgramLine) :
    ((runUntil h ls).1.st, (runUntil h ls).2) = runOperations h.st (operationsOf h ls) := by
  induction ls generalizing h with
  | nil => rfl
  | cons l rest ih =>
    cases hl : runLine h l with
    | next h' => rw [runUntil_cons_next hl, operationsOf, hl, runOperations_cons_next (runLine_next hl), ih]
    | fault r => rw [runUntil_cons_fault hl, operationsOf, hl, runOperations_cons_fault (runLine_fault hl)]
    | refused r => rw [runUntil_cons_refused hl, operationsOf, hl, runOperations_cons_refused (runLine_refused hl)]

/-- A program is observed as the operations it issues. -/
theorem observe_eq_observeOperations (h : HostRun) (ls : List ProgramLine) :
    observe h ls = observeOperations h.st (operationsOf h ls) := by
  rw [observe, runUntil_eq_runOperations, observeOperations]

/-- Lines that end normally are followed by the rest of the program, run from where they ended. -/
theorem runUntil_append {h h' : HostRun} {ls : List ProgramLine} (he : runUntil h ls = (h', none))
    (rest : List ProgramLine) : runUntil h (ls ++ rest) = runUntil h' rest := by
  induction ls generalizing h with
  | nil =>
    cases he
    rfl
  | cons l ls ih =>
    cases hl : runLine h l with
    | next h1 => exact (runUntil_cons_next hl _).trans (ih ((runUntil_cons_next hl ls).symm.trans he))
    | fault r => exact absurd ((runUntil_cons_fault hl ls).symm.trans he) (by simp)
    | refused r => exact absurd ((runUntil_cons_refused hl ls).symm.trans he) (by simp)

/-- A program that ends normally is observed by its results and its final state. -/
theorem observe_of_next {h h' : HostRun} {ls : List ProgramLine} (he : runProgram h ls = .next h') :
    observe h ls = { sequence := h'.observation.map .result, final := some h'.st } := by
  rw [observe, runProgram_next.mp he]
  rfl

/-- A program that meets a refused line is observed by the results before it and the refusal last. -/
theorem observe_of_refused {h h' : HostRun} {ls : List ProgramLine} {l : ProgramLine} {r : Refusal}
    (he : runProgram h ls = .next h') (hl : runLine h' l = .refused r) (rest : List ProgramLine) :
    observe h (ls ++ l :: rest) = { sequence := h'.observation.map .result ++ [.refused r], final := none } := by
  rw [observe, runUntil_append (runProgram_next.mp he), runUntil_cons_refused hl]
  rfl

/-- A program that meets a faulting line is observed by the results before it and the fault last. -/
theorem observe_of_fault {h h' : HostRun} {ls : List ProgramLine} {l : ProgramLine} {r : Fault}
    (he : runProgram h ls = .next h') (hl : runLine h' l = .fault r) (rest : List ProgramLine) :
    observe h (ls ++ l :: rest) = { sequence := h'.observation.map .result ++ [.fault r], final := none } := by
  rw [observe, runUntil_append (runProgram_next.mp he), runUntil_cons_fault hl]
  rfl

end Sys2Proof.Machine
end

