-- ==== Sys2Proof/Laws/Tiles.lean ====
section
/-! SUPPORT. Laws/Tiles.lean: the tile numbers the renderer looks up are in range (60_exceptions.md R304), the lookup on
them, and everything the refresh does. -/

namespace Sys2Proof.Machine

/-- R202: the signed reading of a map byte, without integers. -/
theorem bgTile_signed (idx : Byte) : bgTile idx false = if idx.toNat ≤ 127 then idx.toNat + 256 else idx.toNat := by
  have := idx.isLt
  unfold bgTile sext8
  split_ifs <;> simp_all <;> omega

/-- R202: every background tile number is below 384. -/
theorem bgTile_lt (idx : Byte) (sel : Bool) : bgTile idx sel < 384 := by
  have := idx.isLt
  cases sel
  · rw [bgTile_signed]; split_ifs <;> omega
  · simp only [bgTile, if_true]; omega

/-- R203, R235: every sprite tile number is below 384. -/
theorem tileOf_lt (sp : Sprite) (h r : Nat) : sp.tileOf h r < 384 := by
  unfold Sprite.tileOf objTile
  split_ifs
  · have := ((sp.tile &&& 0xFE) ||| BitVec.ofNat 8 (r / 8)).isLt; omega
  · have := sp.tile.isLt; omega

/-- The lookup of a tile number in range. -/
theorem tilePx_of_lt (s : State) (t : Nat) (r c : Fin 8) (h : t < 384) : tilePx s t r c = .ok s.cache[t][r][c] := by
  simp only [tilePx, dif_pos h]

/-- The lookup of a tile number out of range is the fatal fault. -/
theorem tilePx_of_ge (s : State) (t : Nat) (r c : Fin 8) (h : 384 ≤ t) : tilePx s t r c = .error .tileIndexOutOfRange := by
  simp only [tilePx, dif_neg (Nat.not_lt.mpr h)]

/-- A pixel of a decoded tile (R201). -/
theorem decodeTile_pixel (bank : Memory) (t : Nat) (r c : Fin 8) :
    (decodeTile bank t)[r][c] =
      decodePixel (bank.read (16 * t + 2 * r.val)) (bank.read (16 * t + 2 * r.val + 1)) c := by
  simp [decodeTile]

/-- What the refresh loop has done after some tiles: those among them that were dirty are decoded and clean. -/
theorem refreshTile_fold (bank : Memory) (l : List (Fin 384)) (tiles : Vector Tile 384) (flags : Vector Bool 384)
    (t : Fin 384) :
    (l.foldl (refreshTile bank) (tiles, flags)).1[t] =
        (if t ∈ l ∧ flags[t] = true then decodeTile bank t else tiles[t]) ∧
      (l.foldl (refreshTile bank) (tiles, flags)).2[t] = (if t ∈ l then false else flags[t]) := by
  induction l generalizing tiles flags with
  | nil => simp
  | cons u rest ih =>
    rw [List.foldl_cons]
    by_cases hd : flags[u] = true
    · have hstep : refreshTile bank (tiles, flags) u = (tiles.set u (decodeTile bank u), flags.set u false) := by
        simp only [refreshTile, hd, if_true]
      rw [hstep]
      obtain ⟨h1, h2⟩ := ih (tiles.set u (decodeTile bank u)) (flags.set u false)
      rw [h1, h2]
      by_cases htu : t = u
      · subst htu; simp_all
      · have hne : u.val ≠ t.val := fun hh => htu (Fin.ext hh.symm)
        simp [htu, hne]
    · have hstep : refreshTile bank (tiles, flags) u = (tiles, flags) := by
        simp only [refreshTile, hd]; rfl
      rw [hstep]
      obtain ⟨h1, h2⟩ := ih tiles flags
      rw [h1, h2]
      by_cases htu : t = u
      · subst htu; simp_all
      · simp [htu]

/-- R205: a tile after the refresh. -/
theorem refresh_cache (s : State) (t : Fin 384) :
    (refresh s).cache[t] = if s.anyDirty = true ∧ s.dirty[t] = true then decodeTile s.vram0 t else s.cache[t] := by
  unfold refresh
  by_cases h : s.anyDirty = true
  · simp only [h, if_true, State.setTiles_cache, true_and]
    rw [(refreshTile_fold s.vram0 _ s.cache s.dirty t).1]
    simp only [List.mem_finRange, true_and]
  · simp [h]

/-- R205: a dirty flag after the refresh. -/
theorem refresh_dirty (s : State) (t : Fin 384) :
    (refresh s).dirty[t] = if s.anyDirty = true then false else s.dirty[t] := by
  unfold refresh
  by_cases h : s.anyDirty = true
  · simp only [h, if_true, State.setTiles_dirty]
    rw [(refreshTile_fold s.vram0 _ s.cache s.dirty t).2]
    simp
  · simp [h]

/-- R205: the aggregate flag after the refresh. -/
theorem refresh_anyDirty (s : State) : (refresh s).anyDirty = false := by
  unfold refresh
  by_cases h : s.anyDirty = true
  · simp [h]
  · simp [h]

/-- The refresh replaces the tile cache and its flags and nothing else. -/
theorem refresh_eq (s : State) : refresh s = s.setTiles (refresh s).cache (refresh s).dirty (refresh s).anyDirty := by
  unfold refresh
  by_cases h : s.anyDirty = true
  · simp only [h, if_true]
    generalize (List.finRange 384).foldl (refreshTile s.vram0) (s.cache, s.dirty) = tiles
    rfl
  · rw [if_neg h]
    rfl

@[simp] theorem refresh_cfg (s : State) : (refresh s).cfg = s.cfg := by rw [refresh_eq]; rfl
@[simp] theorem refresh_reg (s : State) : (refresh s).reg = s.reg := by rw [refresh_eq]; rfl
@[simp] theorem refresh_ly (s : State) : (refresh s).ly = s.ly := by rw [refresh_eq]; rfl
@[simp] theorem refresh_counter (s : State) : (refresh s).counter = s.counter := by rw [refresh_eq]; rfl
@[simp] theorem refresh_mode (s : State) : (refresh s).mode = s.mode := by rw [refresh_eq]; rfl
@[simp] theorem refresh_vram0 (s : State) : (refresh s).vram0 = s.vram0 := by rw [refresh_eq]; rfl
@[simp] theorem refresh_vram1 (s : State) : (refresh s).vram1 = s.vram1 := by rw [refresh_eq]; rfl
@[simp] theorem refresh_oam (s : State) : (refresh s).oam = s.oam := by rw [refresh_eq]; rfl
@[simp] theorem refresh_palBg (s : State) : (refresh s).palBg = s.palBg := by rw [refresh_eq]; rfl
@[simp] theorem refresh_palObp0 (s : State) : (refresh s).palObp0 = s.palObp0 := by rw [refresh_eq]; rfl
@[simp] theorem refresh_palObp1 (s : State) : (refresh s).palObp1 = s.palObp1 := by rw [refresh_eq]; rfl
@[simp] theorem refresh_fb (s : State) : (refresh s).fb = s.fb := by rw [refresh_eq]; rfl
@[simp] theorem refresh_prio (s : State) : (refresh s).prio = s.prio := by rw [refresh_eq]; rfl
@[simp] theorem refresh_spriteDone (s : State) : (refresh s).spriteDone = s.spriteDone := by rw [refresh_eq]; rfl
@[simp] theorem refresh_inbox (s : State) : (refresh s).inbox = s.inbox := by rw [refresh_eq]; rfl
@[simp] theorem refresh_results (s : State) : (refresh s).results = s.results := by rw [refresh_eq]; rfl

end Sys2Proof.Machine
end

