-- ==== Sys2Proof/Laws/Render.lean ====
section
/-! SUPPORT. Laws/Render.lean: no lookup of the renderer fails (60_exceptions.md R304), and what each layer leaves in each
column of the line. -/

namespace Sys2Proof.Machine

/-! ### Loops -/

/-- A loop whose body never fails is a plain loop. -/
theorem foldlM_ok {α : Type} (l : List α) (f : LineBuf → α → Except Fault LineBuf) (g : LineBuf → α → LineBuf)
    (h : ∀ b x, f b x = .ok (g b x)) (b : LineBuf) : l.foldlM f b = .ok (l.foldl g b) := by
  induction l generalizing b with
  | nil => rfl
  | cons x rest ih =>
    rw [List.foldlM_cons, h b x]
    exact ih (g b x)

/-! ### Lookups -/

/-- The index the cache holds for a map's pixel. -/
def mapCached (s : State) (base y x : Nat) : ColourIndex :=
  (s.cache[bgTile (mapByte s base y x) (tileSel s)]'(bgTile_lt _ _))[within8 y][within8 x]

/-- A map lookup never fails. -/
theorem mapPixel_ok (s : State) (base y x : Nat) : mapPixel s base y x = .ok (mapCached s base y x) :=
  tilePx_of_lt s _ _ _ (bgTile_lt _ _)

/-- The index the cache holds for a sprite's pixel. -/
def spriteCached (s : State) (line : Nat) (sp : Sprite) (c : Fin 8) : ColourIndex :=
  (s.cache[sp.tileOf (spriteHeight s) (sp.row (spriteHeight s) line)]'(tileOf_lt _ _ _))[within8
    (sp.row (spriteHeight s) line)][sp.column c]

/-- A sprite lookup never fails. -/
theorem spritePixel_ok (s : State) (line : Nat) (sp : Sprite) (c : Fin 8) :
    spritePixel s line sp c = .ok (spriteCached s line sp c) :=
  tilePx_of_lt s _ _ _ (tileOf_lt _ _ _)

/-! ### Tile layers -/

/-- A column of a tile layer: drawn where the layer covers it. -/
def drawTile (pal : Palette) (covers : Fin 160 → Bool) (index : Fin 160 → ColourIndex) (b : LineBuf) (x : Fin 160) :
    LineBuf :=
  if covers x then b.putTile pal x (index x) else b

/-- A tile layer over some columns: the covered ones among them hold the layer's pixel and its raw index, every other
column and every sprite mark is as before. -/
theorem drawTile_fold (pal : Palette) (covers : Fin 160 → Bool) (index : Fin 160 → ColourIndex) (l : List (Fin 160))
    (b : LineBuf) (y : Fin 160) :
    (l.foldl (drawTile pal covers index) b).row[y] =
        (if y ∈ l ∧ covers y = true then paletteColour pal (index y) else b.row[y]) ∧
      (l.foldl (drawTile pal covers index) b).prio[y] =
        (if y ∈ l ∧ covers y = true then (index y).toNat else b.prio[y]) ∧
      (l.foldl (drawTile pal covers index) b).done = b.done := by
  induction l generalizing b with
  | nil => simp
  | cons x rest ih =>
    rw [List.foldl_cons]
    obtain ⟨h1, h2, h3⟩ := ih (drawTile pal covers index b x)
    rw [h1, h2, h3]
    unfold drawTile
    by_cases hc : covers x = true
    · by_cases hyx : y = x
      · subst hyx; simp_all [LineBuf.putTile]
      · have hne : x.val ≠ y.val := fun hh => hyx (Fin.ext hh.symm)
        simp [hc, hyx, LineBuf.putTile, hne]
    · by_cases hyx : y = x
      · subst hyx; simp_all
      · simp [hc, hyx]

/-- The background layer is a tile layer that covers every column (R226, R227). -/
theorem bgLine_ok (s : State) (line : Nat) (b : LineBuf) :
    bgLine s line b = .ok ((List.finRange 160).foldl
      (drawTile s.palBg (fun _ => true) fun x =>
        mapCached s (mapBase (bgMapHigh s)) ((line + s.reg.scy.toNat) % 256) ((x.val + s.reg.scx.toNat) % 256)) b) := by
  refine foldlM_ok _ _ _ (fun b x => ?_) b
  simp only [bgColumn, mapPixel_ok, drawTile, if_true]

/-- The window layer is a tile layer that covers the window's columns (R228 to R230). -/
theorem winLine_ok (s : State) (line : Nat) (b : LineBuf) :
    winLine s line b = .ok ((List.finRange 160).foldl
      (drawTile s.palBg (windowCovers s line) fun x =>
        mapCached s (mapBase (winMapHigh s)) (line - s.reg.wy.toNat) (x.val + 7 - s.reg.wx.toNat)) b) := by
  refine foldlM_ok _ _ _ (fun b x => ?_) b
  simp only [winColumn, mapPixel_ok, drawTile]
  split <;> rfl

/-! ### Sprites -/

/-- Sprite column `c` at screen column `x`, with its index looked up. -/
def drawSpriteAt (s : State) (line : Nat) (sp : Sprite) (b : LineBuf) (c : Fin 8) (x : Fin 160) : LineBuf :=
  if 4 ≤ b.prio[x] then b
  else if sp.behind && decide (b.prio[x] ≠ 0) then b
  else if spriteCached s line sp c = 0 then b
  else if b.done[x] then b
  else b.putSprite (spritePalette s sp) x (spriteCached s line sp c)

/-- A sprite column never fails. -/
theorem spriteAtColumn_ok (s : State) (line : Nat) (sp : Sprite) (b : LineBuf) (c : Fin 8) (x : Fin 160) :
    spriteAtColumn s line sp b c x = .ok (drawSpriteAt s line sp b c x) := by
  simp only [spriteAtColumn, drawSpriteAt, spritePixel_ok]
  split_ifs <;> rfl

/-- Sprite column `c`, on the screen or not. -/
def drawSpriteColumn (s : State) (line : Nat) (sp : Sprite) (b : LineBuf) (c : Fin 8) : LineBuf :=
  if h : 0 ≤ sp.left + (c.val : Int) ∧ sp.left + (c.val : Int) < 160 then
    drawSpriteAt s line sp b c ⟨(sp.left + (c.val : Int)).toNat, by omega⟩
  else b

/-- A sprite column never fails. -/
theorem spriteColumn_ok (s : State) (line : Nat) (sp : Sprite) (b : LineBuf) (c : Fin 8) :
    spriteColumn s line sp b c = .ok (drawSpriteColumn s line sp b c) := by
  unfold spriteColumn drawSpriteColumn
  by_cases h : 0 ≤ sp.left + (c.val : Int) ∧ sp.left + (c.val : Int) < 160
  · simp only [dif_pos h]; exact spriteAtColumn_ok s line sp b c _
  · simp only [dif_neg h]

/-- Entry `k`. -/
def drawEntry (s : State) (line : Nat) (b : LineBuf) (k : Fin 40) : LineBuf :=
  if (spriteAt s.oam k.val).onLine (spriteHeight s) line then
    (List.finRange 8).foldl (drawSpriteColumn s line (spriteAt s.oam k.val)) b
  else b

/-- An entry never fails. -/
theorem spriteEntry_ok (s : State) (line : Nat) (b : LineBuf) (k : Fin 40) :
    spriteEntry s line b k = .ok (drawEntry s line b k) := by
  unfold spriteEntry drawEntry
  by_cases h : (spriteAt s.oam k.val).onLine (spriteHeight s) line = true
  · simp only [h, if_true]
    exact foldlM_ok _ _ _ (fun b c => spriteColumn_ok s line _ b c) b
  · simp only [h, Bool.false_eq_true, if_false]

/-- The sprite layer never fails: it is a plain loop over the 40 entries. -/
theorem objLine_ok (s : State) (line : Nat) (b : LineBuf) :
    objLine s line b = .ok ((List.finRange 40).foldl (drawEntry s line) b) :=
  foldlM_ok _ _ _ (fun b k => spriteEntry_ok s line b k) b

/-- The sprite's own column at a screen column shows there: not hidden by the priority buffer, not transparent. -/
def showsAt (s : State) (line : Nat) (sp : Sprite) (prio : Nat) (c : Fin 8) (x : Fin 160) : Bool :=
  decide (sp.left + (c.val : Int) = (x.val : Int)) && decide (prio < 4) && !(sp.behind && decide (prio ≠ 0)) &&
    decide (spriteCached s line sp c ≠ 0)

/-- One sprite column, seen at one screen column: it draws and marks it if it shows there and the column is free. -/
theorem drawSpriteColumn_at (s : State) (line : Nat) (sp : Sprite) (b : LineBuf) (c : Fin 8) (x : Fin 160) :
    (drawSpriteColumn s line sp b c).row[x] =
        (if showsAt s line sp b.prio[x] c x = true ∧ b.done[x] = false then
          paletteColour (spritePalette s sp) (spriteCached s line sp c) else b.row[x]) ∧
      (drawSpriteColumn s line sp b c).done[x] = (b.done[x] || showsAt s line sp b.prio[x] c x) ∧
      (drawSpriteColumn s line sp b c).prio = b.prio := by
  unfold drawSpriteColumn
  by_cases h : 0 ≤ sp.left + (c.val : Int) ∧ sp.left + (c.val : Int) < 160
  · rw [dif_pos h]
    by_cases hx : sp.left + (c.val : Int) = (x.val : Int)
    · have hfin : (⟨(sp.left + (c.val : Int)).toNat, by omega⟩ : Fin 160) = x := Fin.ext (by simp [hx])
      rw [hfin]
      simp only [drawSpriteAt, showsAt, Fin.getElem_fin, hx]
      by_cases h4 : 4 ≤ b.prio[x.val]
      · simp [h4, Nat.not_lt.mpr h4]
      · have h4' : b.prio[x.val] < 4 := Nat.lt_of_not_le h4
        by_cases hb : sp.behind = true ∧ b.prio[x.val] ≠ 0
        · simp [h4, hb.1, hb.2]
        · have hb' : (sp.behind && decide (b.prio[x.val] ≠ 0)) = false := by
            simpa [not_and, Classical.or_iff_not_imp_left] using hb
          simp only [hb', if_neg h4, h4', decide_true, Bool.not_false, Bool.true_and, Bool.false_eq_true, if_false]
          by_cases hc : spriteCached s line sp c = 0
          · simp [hc]
          · simp only [ne_eq, hc, not_false_iff, decide_true, true_and, Bool.or_true]
            by_cases hd : b.done[x.val] = true
            · simp [hd]
            · simp [hd, LineBuf.putSprite]
    · have hne : (sp.left + (c.val : Int)).toNat ≠ x.val := by omega
      have hs : showsAt s line sp b.prio[x] c x = false := by simp [showsAt, hx]
      rw [hs]
      unfold drawSpriteAt
      split_ifs <;> simp_all [LineBuf.putSprite]
  · rw [dif_neg h]
    have hx : sp.left + (c.val : Int) ≠ (x.val : Int) := by omega
    have hs : showsAt s line sp b.prio[x] c x = false := by simp [showsAt, hx]
    rw [hs]; simp

/-- One entry, seen at one screen column: some of its columns shows there. -/
def entryShows (s : State) (line : Nat) (sp : Sprite) (prio : Nat) (cs : List (Fin 8)) (x : Fin 160) : Bool :=
  cs.any fun c => showsAt s line sp prio c x

/-- The columns of an entry, seen at one screen column: at most one reaches it, and it draws there if it shows and the
column is free. -/
theorem drawSpriteColumn_fold (s : State) (line : Nat) (sp : Sprite) (cs : List (Fin 8)) (b : LineBuf) (x : Fin 160) :
    (cs.foldl (drawSpriteColumn s line sp) b).row[x] =
        (match cs.find? fun c => showsAt s line sp b.prio[x] c x with
        | some c => if b.done[x] = false then paletteColour (spritePalette s sp) (spriteCached s line sp c) else b.row[x]
        | none => b.row[x]) ∧
      (cs.foldl (drawSpriteColumn s line sp) b).done[x] = (b.done[x] || entryShows s line sp b.prio[x] cs x) ∧
      (cs.foldl (drawSpriteColumn s line sp) b).prio = b.prio := by
  induction cs generalizing b with
  | nil => simp [entryShows]
  | cons c rest ih =>
    rw [List.foldl_cons]
    obtain ⟨h1, h2, h3⟩ := ih (drawSpriteColumn s line sp b c)
    obtain ⟨g1, g2, g3⟩ := drawSpriteColumn_at s line sp b c x
    rw [h1, h2, h3, g1, g2]
    simp only [g3]
    by_cases hs : showsAt s line sp b.prio[x] c x = true
    · simp only [hs, entryShows, List.find?_cons, List.any_cons, Bool.or_true, Bool.true_or, true_and,
        Bool.true_eq_false, if_false]
      refine ⟨?_, trivial⟩
      split <;> rfl
    · have hs' : showsAt s line sp b.prio[x] c x = false := by simpa using hs
      simp only [hs', entryShows, List.find?_cons, List.any_cons, Bool.or_false, Bool.false_or, Bool.false_eq_true,
        false_and, if_false, and_self]

/-- Entry `k` shows at a column of the line, over the priority `prio`: on the line, and one of its columns shows. -/
def entryShowsOn (s : State) (line prio : Nat) (x : Fin 160) (k : Fin 40) : Bool :=
  (spriteAt s.oam k.val).onLine (spriteHeight s) line &&
    entryShows s line (spriteAt s.oam k.val) prio (List.finRange 8) x

/-- The colour of entry `k` at a column where it shows. -/
def entryColour (s : State) (line prio : Nat) (x : Fin 160) (k : Fin 40) (dflt : Colour) : Colour :=
  match (List.finRange 8).find? fun c => showsAt s line (spriteAt s.oam k.val) prio c x with
  | some c => paletteColour (spritePalette s (spriteAt s.oam k.val)) (spriteCached s line (spriteAt s.oam k.val) c)
  | none => dflt

/-- One entry, seen at one column. -/
theorem drawEntry_at (s : State) (line : Nat) (b : LineBuf) (k : Fin 40) (x : Fin 160) :
    (drawEntry s line b k).row[x] =
        (if entryShowsOn s line b.prio[x] x k = true ∧ b.done[x] = false then
          entryColour s line b.prio[x] x k b.row[x] else b.row[x]) ∧
      (drawEntry s line b k).done[x] = (b.done[x] || entryShowsOn s line b.prio[x] x k) ∧
      (drawEntry s line b k).prio = b.prio := by
  unfold drawEntry entryShowsOn
  by_cases hl : (spriteAt s.oam k.val).onLine (spriteHeight s) line = true
  · rw [if_pos hl, hl]
    obtain ⟨h1, h2, h3⟩ := drawSpriteColumn_fold s line (spriteAt s.oam k.val) (List.finRange 8) b x
    rw [h1, h2, h3]
    simp only [Bool.true_and, and_self, and_true]
    unfold entryColour
    cases hf : (List.finRange 8).find? fun c => showsAt s line (spriteAt s.oam k.val) b.prio[x] c x with
    | none =>
      have : entryShows s line (spriteAt s.oam k.val) b.prio[x] (List.finRange 8) x = false := by
        rw [entryShows, List.any_eq_false]
        exact List.find?_eq_none.mp hf
      simp
    | some c =>
      have : entryShows s line (spriteAt s.oam k.val) b.prio[x] (List.finRange 8) x = true := by
        rw [entryShows, List.any_eq_true]
        have hc := List.find?_some hf
        exact ⟨c, List.mem_of_find?_eq_some hf, hc⟩
      simp only [this, true_and]
  · rw [if_neg hl]
    simp [hl]

/-- The entries of a list, seen at one column: the first that shows draws there if the column is free (R239). -/
theorem drawEntry_fold (s : State) (line : Nat) (ks : List (Fin 40)) (b : LineBuf) (x : Fin 160) :
    (ks.foldl (drawEntry s line) b).row[x] =
        (if b.done[x] = true then b.row[x]
        else
          match ks.find? (entryShowsOn s line b.prio[x] x) with
          | some k => entryColour s line b.prio[x] x k b.row[x]
          | none => b.row[x]) ∧
      (ks.foldl (drawEntry s line) b).done[x] = (b.done[x] || ks.any (entryShowsOn s line b.prio[x] x)) ∧
      (ks.foldl (drawEntry s line) b).prio = b.prio := by
  induction ks generalizing b with
  | nil => simp
  | cons k rest ih =>
    rw [List.foldl_cons]
    obtain ⟨h1, h2, h3⟩ := ih (drawEntry s line b k)
    obtain ⟨g1, g2, g3⟩ := drawEntry_at s line b k x
    rw [h1, h2, h3, g1, g2]
    simp only [g3]
    by_cases hd : b.done[x] = true
    · simp [hd]
    · have hd' : b.done[x] = false := by simpa using hd
      by_cases hs : entryShowsOn s line b.prio[x] x k = true
      · simp only [hd', hs, List.find?_cons, List.any_cons, Bool.false_or, Bool.true_or, if_true, and_self,
          Bool.false_eq_true, if_false]
      · have hs' : entryShowsOn s line b.prio[x] x k = false := by simpa using hs
        simp only [hd', hs', List.find?_cons, List.any_cons, Bool.false_or, Bool.false_eq_true, if_false, false_and,
          and_self]

/-! ### The whole line -/

/-- The background layer's result. -/
def bgDrawn (s : State) (line : Nat) (b : LineBuf) : LineBuf :=
  (List.finRange 160).foldl (drawTile s.palBg (fun _ => true) fun x =>
    mapCached s (mapBase (bgMapHigh s)) ((line + s.reg.scy.toNat) % 256) ((x.val + s.reg.scx.toNat) % 256)) b

/-- The window layer's result. -/
def winDrawn (s : State) (line : Nat) (b : LineBuf) : LineBuf :=
  (List.finRange 160).foldl (drawTile s.palBg (windowCovers s line) fun x =>
    mapCached s (mapBase (winMapHigh s)) (line - s.reg.wy.toNat) (x.val + 7 - s.reg.wx.toNat)) b

/-- The sprite layer's result. -/
def objDrawn (s : State) (line : Nat) (b : LineBuf) : LineBuf := (List.finRange 40).foldl (drawEntry s line) b

/-- The buffer a render begins with (R223). -/
def freshBuf (s : State) (line : Fin 144) : LineBuf :=
  { row := s.fb[line], prio := Vector.replicate 160 0, done := Vector.replicate 160 false }

/-- The buffer after the tile layers that are on. -/
def tilesDrawn (s : State) (line : Fin 144) : LineBuf :=
  let b := if bgEn s then bgDrawn s line.val (freshBuf s line) else freshBuf s line
  if winEn s then winDrawn s line.val b else b

/-- The buffer a render ends with. -/
def lineDrawn (s : State) (line : Fin 144) : LineBuf :=
  if objEn s then objDrawn s line.val (tilesDrawn s line) else tilesDrawn s line

/-- Composing a line never fails. -/
theorem composeLine_ok (s : State) (line : Fin 144) : composeLine s line = .ok (lineDrawn s line) := by
  unfold composeLine lineDrawn tilesDrawn layer
  simp only [bgLine_ok, winLine_ok, objLine_ok]
  cases bgEn s <;> cases winEn s <;> cases objEn s <;> rfl

/-- Everything a render does (R220 to R222): nothing with the display off; else the refresh, one row of the frame buffer
and the scratch. -/
def rendered (line : Fin 144) (s : State) : State :=
  if lcdEn s then
    (refresh s).setScreen (s.fb.set line (lineDrawn (refresh s) line).row) (lineDrawn (refresh s) line).prio
      (lineDrawn (refresh s) line).done
  else s

/-- A render never fails. -/
theorem render_ok (line : Fin 144) (s : State) : render line s = .ok (rendered line s) := by
  unfold render rendered
  cases lcdEn s
  · rfl
  · simp only [if_true, composeLine_ok, refresh_fb]

/-- The tile layers, seen at one column: the window's pixel where it is on and covers, else the background's where it is
on, else the row as it was with priority 0. No column is marked. -/
theorem tilesDrawn_at (s : State) (line : Fin 144) (x : Fin 160) :
    (tilesDrawn s line).row[x] =
        (if winEn s = true ∧ windowCovers s line.val x = true then
          paletteColour s.palBg
            (mapCached s (mapBase (winMapHigh s)) (line.val - s.reg.wy.toNat) (x.val + 7 - s.reg.wx.toNat))
        else if bgEn s = true then
          paletteColour s.palBg
            (mapCached s (mapBase (bgMapHigh s)) ((line.val + s.reg.scy.toNat) % 256) ((x.val + s.reg.scx.toNat) % 256))
        else s.fb[line][x]) ∧
      (tilesDrawn s line).prio[x] =
        (if winEn s = true ∧ windowCovers s line.val x = true then
          (mapCached s (mapBase (winMapHigh s)) (line.val - s.reg.wy.toNat) (x.val + 7 - s.reg.wx.toNat)).toNat
        else if bgEn s = true then
          (mapCached s (mapBase (bgMapHigh s)) ((line.val + s.reg.scy.toNat) % 256)
            ((x.val + s.reg.scx.toNat) % 256)).toNat
        else 0) ∧
      (tilesDrawn s line).done[x] = false := by
  have hbg := fun b => drawTile_fold s.palBg (fun _ => true) (fun x : Fin 160 =>
    mapCached s (mapBase (bgMapHigh s)) ((line.val + s.reg.scy.toNat) % 256) ((x.val + s.reg.scx.toNat) % 256))
    (List.finRange 160) b x
  have hwin := fun b => drawTile_fold s.palBg (windowCovers s line.val) (fun x : Fin 160 =>
    mapCached s (mapBase (winMapHigh s)) (line.val - s.reg.wy.toNat) (x.val + 7 - s.reg.wx.toNat))
    (List.finRange 160) b x
  simp only [List.mem_finRange, true_and, if_true] at hbg hwin
  unfold tilesDrawn
  cases hb : bgEn s <;> cases hw : winEn s <;>
    simp only [bgDrawn, winDrawn, hbg, hwin, freshBuf, if_true, if_false, true_and, false_and, Bool.false_eq_true] <;>
    simp

/-! ### What a render leaves alone -/

@[simp] theorem rendered_cfg (line : Fin 144) (s : State) : (rendered line s).cfg = s.cfg := by
  unfold rendered; split <;> simp
@[simp] theorem rendered_reg (line : Fin 144) (s : State) : (rendered line s).reg = s.reg := by
  unfold rendered; split <;> simp
@[simp] theorem rendered_ly (line : Fin 144) (s : State) : (rendered line s).ly = s.ly := by
  unfold rendered; split <;> simp
@[simp] theorem rendered_counter (line : Fin 144) (s : State) : (rendered line s).counter = s.counter := by
  unfold rendered; split <;> simp
@[simp] theorem rendered_mode (line : Fin 144) (s : State) : (rendered line s).mode = s.mode := by
  unfold rendered; split <;> simp
@[simp] theorem rendered_vram0 (line : Fin 144) (s : State) : (rendered line s).vram0 = s.vram0 := by
  unfold rendered; split <;> simp
@[simp] theorem rendered_vram1 (line : Fin 144) (s : State) : (rendered line s).vram1 = s.vram1 := by
  unfold rendered; split <;> simp
@[simp] theorem rendered_oam (line : Fin 144) (s : State) : (rendered line s).oam = s.oam := by
  unfold rendered; split <;> simp
@[simp] theorem rendered_palBg (line : Fin 144) (s : State) : (rendered line s).palBg = s.palBg := by
  unfold rendered; split <;> simp
@[simp] theorem rendered_palObp0 (line : Fin 144) (s : State) : (rendered line s).palObp0 = s.palObp0 := by
  unfold rendered; split <;> simp
@[simp] theorem rendered_palObp1 (line : Fin 144) (s : State) : (rendered line s).palObp1 = s.palObp1 := by
  unfold rendered; split <;> simp
@[simp] theorem rendered_inbox (line : Fin 144) (s : State) : (rendered line s).inbox = s.inbox := by
  unfold rendered; split <;> simp
@[simp] theorem rendered_results (line : Fin 144) (s : State) : (rendered line s).results = s.results := by
  unfold rendered; split <;> simp

/-- A render with the display off changes nothing (R221). -/
theorem rendered_off (line : Fin 144) (s : State) (h : lcdEn s = false) : rendered line s = s := by
  simp [rendered, h]

/-- A render leaves every other row of the frame buffer alone (R241). -/
theorem rendered_other_row (line row : Fin 144) (s : State) (h : row ≠ line) : (rendered line s).fb[row] = s.fb[row] := by
  have hne : line.val ≠ row.val := fun hh => h (Fin.ext hh.symm)
  unfold rendered
  split <;> simp [hne]

end Sys2Proof.Machine
end

