-- ==== Sys2Proof/Laws/Step.lean ====
section
/-! SUPPORT. Laws/Step.lean: everything a `Step` can do, said once: where it leaves the position and the mode, when it
renders, what it answers. -/

namespace Sys2Proof.Machine

/-- The state of a `Step` before its render: the position and mode it ends with (R172, R173, R176). -/
def moved (n : Nat) (s : State) : State := (s.setPos (lyAfter n s) (counterAfter n s)).setMode (modeAfter n s)

/-- The state a `Step` ends with, before its answer is recorded: rendered if it entered H-blank (R179). -/
def stepped (n : Nat) (s : State) : State :=
  if h : lyAfter n s < 144 ∧ enters .hBlank n s = true then rendered ⟨lyAfter n s, h.1⟩ (moved n s) else moved n s

/-- The IF byte a `Step` answers with: the requests of the table of R308, in the order of R171. -/
def ifAfter (n : Nat) (f : Byte) (s : State) : Byte :=
  request ((enters .oamScan n s && oamIe s) || (enters .hBlank n s && hblIe s)) statRequest
    (request (advances n s && decide (lyAfter n s = s.reg.lyc.toNat) && lycIe s) statRequest
      (request (entersVBlank n s && vblIe s) statRequest (request (entersVBlank n s) vblankRequest f)))

/-- The running values after the line advance and all it triggers (R172 to R174). -/
theorem advanceLine_eq (n : Nat) (f : Byte) (s : State) :
    advanceLine { st := s.setPos s.ly (s.counter + n), ifByte := f, frameDone := false } =
      { st := (s.setPos (lyAfter n s) (counterAfter n s)).setMode (if entersVBlank n s then .vBlank else s.mode)
        ifByte := request (advances n s && decide (lyAfter n s = s.reg.lyc.toNat) && lycIe s) statRequest
          (request (entersVBlank n s && vblIe s) statRequest (request (entersVBlank n s) vblankRequest f))
        frameDone := entersVBlank n s } := by
  unfold advanceLine
  by_cases ha : 456 ≤ s.counter + n
  · have hadv : advances n s = true := by simp [advances, ha]
    have hly : lyAfter n s = (s.ly + 1) % 154 := by simp [lyAfter, hadv]
    have hk : counterAfter n s = s.counter + n - 456 := by simp [counterAfter, hadv]
    rw [if_pos (by simpa using ha)]
    simp only [State.setPos_ly, State.setPos_counter]
    by_cases hv : 144 ≤ (s.ly + 1) % 154 ∧ s.mode ≠ .vBlank
    · have hent : entersVBlank n s = true := by simp [entersVBlank, hadv, hly, hv.1, hv.2]
      unfold enterVBlank
      rw [if_pos (by simpa using hv), hent, hadv, hly, hk]
      rfl
    · have hent : entersVBlank n s = false := by
        simp only [entersVBlank, hadv, hly, Bool.true_and, Bool.and_eq_false_iff, decide_eq_false_iff_not]
        by_cases h1 : 144 ≤ (s.ly + 1) % 154
        · exact Or.inr fun h2 => hv ⟨h1, h2⟩
        · exact Or.inl h1
      unfold enterVBlank
      rw [if_neg (by simpa using hv), hent, hadv, hly, hk]
      rfl
  · have hadv : advances n s = false := by simp [advances, ha]
    have hly : lyAfter n s = s.ly := by simp [lyAfter, hadv]
    have hk : counterAfter n s = s.counter + n := by simp [counterAfter, hadv]
    have hent : entersVBlank n s = false := by simp [entersVBlank, hadv]
    rw [if_neg (by simpa using ha)]
    simp only [hent, hadv, hly, hk]
    rfl

/-- Everything a `Step` within the bound does: it ends normally, in the state `stepped`, and answers the IF byte with the
requests of R308 and whether V-blank was entered. -/
theorem stepBlock_ok (n : Nat) (f : Byte) (s : State) (hn : n ≤ 456) :
    stepBlock n f s = .next ((stepped n s).emit (.stepped (ifAfter n f s) (entersVBlank n s))) := by
  unfold ifAfter
  unfold stepBlock
  rw [if_neg (Nat.not_lt.mpr hn), advanceLine_eq]
  unfold selectMode
  by_cases hl : lyAfter n s < 144
  · have hent : entersVBlank n s = false := by simp [entersVBlank, hl]
    simp only [State.setMode_ly, State.setPos_ly, State.setMode_counter, State.setPos_counter, State.setMode_mode,
      dif_pos hl, hent, Bool.false_eq_true, if_false]
    have hmode : modeAfter n s = modeOf (counterAfter n s) := by simp [modeAfter, hl]
    by_cases hm : modeOf (counterAfter n s) = s.mode
    · have h1 : ∀ m, enters m n s = false := by
        intro m
        simp only [enters, Bool.and_eq_false_iff, decide_eq_false_iff_not]
        by_cases h2 : modeOf (counterAfter n s) = m
        · exact Or.inr (by simp [← h2, hm])
        · exact Or.inl (Or.inr h2)
      simp only [if_pos hm, h1, stepped, Bool.false_eq_true, and_false, dif_neg, not_false_iff, Bool.false_and,
        Bool.or_false]
      simp only [moved, hmode, hm]
      rfl
    · rw [if_neg hm]
      have henter : ∀ m, modeOf (counterAfter n s) = m → enters m n s = true := by
        intro m h2
        subst h2
        simp only [enters, hl, decide_true, Bool.true_and, decide_eq_true_eq]
        exact fun h3 => hm h3.symm
      have hother : ∀ m, modeOf (counterAfter n s) ≠ m → enters m n s = false := by
        intro m h2
        simp [enters, h2]
      cases hmo : modeOf (counterAfter n s) with
      | oamScan =>
        simp only [entryAction, stepped, henter _ hmo, hother .hBlank (by rw [hmo]; decide), moved, hmode, hmo,
          Bool.false_eq_true, and_false, dif_neg, not_false_iff, Bool.false_and, Bool.or_false, Bool.true_and]
        rfl
      | vramRead =>
        simp only [entryAction, stepped, hother .oamScan (by rw [hmo]; decide), hother .hBlank (by rw [hmo]; decide), moved,
          hmode, hmo, Bool.false_eq_true, and_false, dif_neg, not_false_iff, Bool.false_and, Bool.or_false]
        rfl
      | hBlank =>
        have hsm : ∀ m, ((s.setPos (lyAfter n s) (counterAfter n s)).setMode s.mode).setMode m =
            (s.setPos (lyAfter n s) (counterAfter n s)).setMode m := fun _ => rfl
        simp only [entryAction, render_ok, stepped, henter _ hmo, hother .oamScan (by rw [hmo]; decide), moved, hmode, hmo,
          hl, and_self, dif_pos, Bool.false_and, Bool.false_or, Bool.true_and, hsm]
        rfl
      | vBlank =>
        exfalso
        unfold modeOf at hmo
        split_ifs at hmo
  · rw [dif_neg (by simpa using hl)]
    have h1 : ∀ m, enters m n s = false := by intro m; simp [enters, hl]
    have hmode : modeAfter n s = if entersVBlank n s then .vBlank else s.mode := by
      simp only [modeAfter, hl, if_false, entersVBlank]
      by_cases hadv : advances n s = true
      · simp only [hadv, if_true, Bool.true_and, decide_eq_true (Nat.not_lt.mp hl)]
        by_cases hv : s.mode = .vBlank <;> simp [hv]
      · simp [hadv]
    simp only [stepped, h1, Bool.false_eq_true, and_false, dif_neg, not_false_iff, Bool.false_and, Bool.or_false]
    simp only [moved, hmode]
    rfl

/-- The same of the instruction STEP. -/
theorem exec_step_ok (n : Nat) (f : Byte) (s : State) (hn : n ≤ 456) :
    exec (.step n f) s = .next ((stepped n s).emit (.stepped (ifAfter n f s) (entersVBlank n s))) :=
  stepBlock_ok n f s hn

/-- R170: beyond the bound it is refused. -/
theorem stepBlock_refused (n : Nat) (f : Byte) (s : State) (hn : 456 < n) : stepBlock n f s = .refused .stepTooLong := by
  unfold stepBlock; rw [if_pos hn]

/-! ### What a `Step` leaves, field by field -/

@[simp] theorem stepped_cfg (n : Nat) (s : State) : (stepped n s).cfg = s.cfg := by unfold stepped; split <;> simp [moved]
@[simp] theorem stepped_reg (n : Nat) (s : State) : (stepped n s).reg = s.reg := by unfold stepped; split <;> simp [moved]
@[simp] theorem stepped_ly (n : Nat) (s : State) : (stepped n s).ly = lyAfter n s := by unfold stepped; split <;> simp [moved]
@[simp] theorem stepped_counter (n : Nat) (s : State) : (stepped n s).counter = counterAfter n s := by
  unfold stepped; split <;> simp [moved]
@[simp] theorem stepped_mode (n : Nat) (s : State) : (stepped n s).mode = modeAfter n s := by
  unfold stepped; split <;> simp [moved]
@[simp] theorem stepped_vram0 (n : Nat) (s : State) : (stepped n s).vram0 = s.vram0 := by
  unfold stepped; split <;> simp [moved]
@[simp] theorem stepped_vram1 (n : Nat) (s : State) : (stepped n s).vram1 = s.vram1 := by
  unfold stepped; split <;> simp [moved]
@[simp] theorem stepped_oam (n : Nat) (s : State) : (stepped n s).oam = s.oam := by unfold stepped; split <;> simp [moved]
@[simp] theorem stepped_palBg (n : Nat) (s : State) : (stepped n s).palBg = s.palBg := by
  unfold stepped; split <;> simp [moved]
@[simp] theorem stepped_palObp0 (n : Nat) (s : State) : (stepped n s).palObp0 = s.palObp0 := by
  unfold stepped; split <;> simp [moved]
@[simp] theorem stepped_palObp1 (n : Nat) (s : State) : (stepped n s).palObp1 = s.palObp1 := by
  unfold stepped; split <;> simp [moved]
@[simp] theorem stepped_inbox (n : Nat) (s : State) : (stepped n s).inbox = s.inbox := by
  unfold stepped; split <;> simp [moved]
@[simp] theorem stepped_results (n : Nat) (s : State) : (stepped n s).results = s.results := by
  unfold stepped; split <;> simp [moved]

/-- A `Step` that does not enter H-blank renders nothing. -/
theorem stepped_of_not_enters (n : Nat) (s : State) (h : enters .hBlank n s = false) : stepped n s = moved n s := by
  unfold stepped; rw [dif_neg (by simp [h])]

/-- A `Step` that enters H-blank renders the line it has reached. -/
theorem stepped_of_enters (n : Nat) (s : State) (line : Fin 144) (hl : lyAfter n s = line.val)
    (h : enters .hBlank n s = true) : stepped n s = rendered line (moved n s) := by
  unfold stepped
  rw [dif_pos ⟨by omega, h⟩]
  exact congrArg (fun l => rendered l (moved n s)) (Fin.ext hl)

/-- With the display off a `Step` renders nothing (R221). -/
theorem stepped_display_off (n : Nat) (s : State) (h : lcdEn s = false) : stepped n s = moved n s := by
  unfold stepped
  split
  · exact rendered_off _ _ h
  · rfl

/-! ### The line advance -/

/-- The position after a `Step` that advances the line. -/
theorem after_advance (n : Nat) (s : State) (h : 456 ≤ s.counter + n) :
    advances n s = true ∧ lyAfter n s = (s.ly + 1) % 154 ∧ counterAfter n s = s.counter + n - 456 := by
  have ha : advances n s = true := by simp [advances, h]
  exact ⟨ha, by simp [lyAfter, ha], by simp [counterAfter, ha]⟩

/-- The position after a `Step` that does not. -/
theorem after_same_line (n : Nat) (s : State) (h : s.counter + n < 456) :
    advances n s = false ∧ lyAfter n s = s.ly ∧ counterAfter n s = s.counter + n := by
  have ha : advances n s = false := by simp [advances]; omega
  exact ⟨ha, by simp [lyAfter, ha], by simp [counterAfter, ha]⟩

end Sys2Proof.Machine
end

