-- ==== Sys2Proof/Tests/Slice0.lean ====
section
/-! SUPPORT. Tests/Slice0.lean: the model's own tests. Expected results come from the worked examples and vectors of
95_test_vectors.md (E.., V..), which each test names, or are written out from the tables of 30_encoding.md. The last part
gives, for every obligation with hypotheses, a concrete input that meets them (`witness_<obligation>`). -/

namespace Sys2Proof.Tests

open Sys2Proof Sys2Proof.Machine

set_option Elab.async false

/-! ### Small states -/

/-- A closed configuration: the default colours, `K = 4`, `S = 0`. -/
def cfg (extended : Bool) : Config :=
  { baseColours := Config.monochrome, lcdEnableCycleOffset := 4, statBit7 := 0, extendedMode := extended }

/-- The state after reset with that configuration. -/
def base : State := State.resetWith (cfg false)

/-- The same in extended mode. -/
def baseX : State := State.resetWith (cfg true)

/-- A state at a position and mode, with the STAT enables and LYC. -/
def timed (ly counter : Nat) (m : Mode) (en : BitVec 4) (lyc : Byte) : State :=
  { base with ly := ly, counter := counter, mode := m, reg := { Regs.reset with statEn := en, lyc := lyc } }

/-- A tile whose row 0 holds these indices and whose other rows are 0. -/
def topRow (r : Vector ColourIndex 8) : Tile := (Vector.replicate 8 (Vector.replicate 8 0)).set 0 r

/-- A tile with one index everywhere in row 0. -/
def solid (ci : ColourIndex) : Tile := topRow (Vector.replicate 8 ci)

/-- The common setup of the renderer's vectors (95_test_vectors.md 2.4) at the last cycle before H-blank of a line, with the
tiles of the vector decoded. -/
def scene (line : Nat) (g : Regs) (maps oam : Memory) (tiles : List (Fin 384 × Tile)) : State :=
  { base with
    ly := line, counter := 252, mode := .vramRead, vram0 := maps, oam := oam
    reg := { g with bgp := 0xE4, obp0 := 0xE4, obp1 := 0x1B }
    palBg := compile Config.monochrome 0xE4, palObp0 := compile Config.monochrome 0xE4
    palObp1 := compile Config.monochrome 0x1B
    cache := tiles.foldl (fun c t => c.set t.1 t.2) base.cache }

/-- The registers of a scene: LCDC, all else 0. -/
def screenOn (lcdc : Byte) : Regs := { Regs.reset with lcdc := lcdc }

/-- An instruction ends normally in a state with a property. -/
def after (i : Instr) (s : State) (p : State → Bool) : Bool := (nextOf (exec i s)).any p

/-- The newest result is this byte. -/
def gives (d : Byte) (t : State) : Bool := decide (t.results.head? = some (.byte d))

/-- Row `line` after the step into H-blank is these colours, a colour with how many columns it covers. -/
def draws (line : Fin 144) (g : Regs) (maps : Memory) (tiles : List (Fin 384 × Tile)) (runs : List (Nat × Colour)) : Bool :=
  after (.step 1 0x00) (scene line.val g maps [] tiles) fun t =>
    decide (t.fb[line].toList = runs.flatMap fun r => List.replicate r.1 r.2)

/-- Colour W of 95_test_vectors.md. -/
def cW : Colour := ⟨0xFF, 0xFF, 0xFF, 0xFF⟩
/-- Colour L. -/
def cL : Colour := ⟨0xC0, 0xC0, 0xC0, 0xFF⟩
/-- Colour D. -/
def cD : Colour := ⟨0x60, 0x60, 0x60, 0xFF⟩
/-- Colour K. -/
def cK : Colour := ⟨0x00, 0x00, 0x00, 0xFF⟩
/-- Colour Z. -/
def cZ : Colour := ⟨0x00, 0x00, 0x00, 0x00⟩

/-! ### WellFormed refuses ill-formed terms -/

/-- A port outside the row's range is ill-formed (rd). -/
theorem test_wf_rd_ports :
  (Instr.rdUnmapped00To3F 0x40).wf = false ∧ (Instr.rdUnmapped00To3F 0xFF).wf = false ∧
  (Instr.rdUnmapped50To5F 0x4F).wf = false ∧ (Instr.rdUnmapped50To5F 0x60).wf = false ∧
  (Instr.rdUnmapped60To7F 0x5F).wf = false ∧ (Instr.rdUnmapped60To7F 0x80).wf = false ∧
  (Instr.rdUnmapped80ToFF 0x7F).wf = false ∧ (Instr.rdUnmapped80ToFF 0x00).wf = false := by
  decide

/-- An address outside the row's range is ill-formed (rd). -/
theorem test_wf_rd_addresses :
  (Instr.vramRd 0x7FFF).wf = false ∧ (Instr.vramRd 0xA000).wf = false ∧
  (Instr.vramRdOut0000To7FFF 0x8000).wf = false ∧ (Instr.vramRdOutA000ToBFFF 0x9FFF).wf = false ∧
  (Instr.vramRdOutA000ToBFFF 0xC000).wf = false ∧ (Instr.vramRdOutC000ToFFFF 0xBFFF).wf = false := by
  decide

/-- An offset outside the row's range is ill-formed (rd). -/
theorem test_wf_rd_offsets :
  (Instr.oamRd00To7F 0x80).wf = false ∧ (Instr.oamRd80To9F 0x7F).wf = false ∧ (Instr.oamRd80To9F 0xA0).wf = false ∧
  (Instr.oamRdOutA0ToBF 0x9F).wf = false ∧ (Instr.oamRdOutA0ToBF 0xC0).wf = false ∧
  (Instr.oamRdOutC0ToFF 0xBF).wf = false := by
  decide

/-- A port outside the row's range is ill-formed (wr). -/
theorem test_wf_wr_ports :
  (Instr.wrUnmapped00To3F 0x40 0).wf = false ∧ (Instr.wrUnmapped00To3F 0xFF 0).wf = false ∧
  (Instr.wrUnmapped50To5F 0x4F 0).wf = false ∧ (Instr.wrUnmapped50To5F 0x60 0).wf = false ∧
  (Instr.wrUnmapped60To7F 0x5F 0).wf = false ∧ (Instr.wrUnmapped60To7F 0x80 0).wf = false ∧
  (Instr.wrUnmapped80ToFF 0x7F 0).wf = false ∧ (Instr.wrUnmapped80ToFF 0x00 0).wf = false := by
  decide

/-- An address outside the row's range is ill-formed (wr). -/
theorem test_wf_wr_addresses :
  (Instr.vramWr 0x7FFF 0).wf = false ∧ (Instr.vramWr 0xA000 0).wf = false ∧
  (Instr.vramWrOut0000To7FFF 0x8000 0).wf = false ∧ (Instr.vramWrOutA000ToBFFF 0x9FFF 0).wf = false ∧
  (Instr.vramWrOutA000ToBFFF 0xC000 0).wf = false ∧ (Instr.vramWrOutC000ToFFFF 0xBFFF 0).wf = false := by
  decide

/-- An offset outside the row's range is ill-formed (wr). -/
theorem test_wf_wr_offsets :
  (Instr.oamWr00To7F 0x80 0).wf = false ∧ (Instr.oamWr80To9F 0x7F 0).wf = false ∧
  (Instr.oamWr80To9F 0xA0 0).wf = false ∧ (Instr.oamWrOutA0ToBF 0x9F 0).wf = false ∧
  (Instr.oamWrOutA0ToBF 0xC0 0).wf = false ∧ (Instr.oamWrOutC0ToFF 0xBF 0).wf = false := by
  decide

/-- The cycle counts divide at 456 (R170). -/
theorem test_wf_cycles :
  (Instr.step 457 0).wf = false ∧ (Instr.stepRefused 456 0).wf = false ∧ (Instr.step 456 0).wf = true ∧
  (Instr.stepRefused 457 0).wf = true := by
  decide

/-! ### Words written out from the spec's encodings decode (30_encoding.md R90 to R92, R107) -/

/-- Register reads, by the port map R92. -/
theorem test_decode_register_reads :
  decode (.portR 0b01000000) = .rdLcdc ∧ decode (.portR 0b01000001) = .rdStat ∧ decode (.portR 0b01000010) = .rdScy ∧
  decode (.portR 0b01000011) = .rdScx ∧ decode (.portR 0b01000100) = .rdLy ∧ decode (.portR 0b01000101) = .rdLyc ∧
  decode (.portR 0b01000111) = .rdBgp ∧ decode (.portR 0b01001000) = .rdObp0 ∧ decode (.portR 0b01001001) = .rdObp1 ∧
  decode (.portR 0b01001010) = .rdWy ∧ decode (.portR 0b01001011) = .rdWx ∧ decode (.portR 0b01001111) = .rdVbk := by
  decide

/-- Register writes, by the port map R92. -/
theorem test_decode_register_writes :
  decode (.portW 0b01000000 0b10100101) = .wrLcdc 0xA5 ∧ decode (.portW 0b01000001 0b10100101) = .wrStat 0xA5 ∧
  decode (.portW 0b01000010 0b10100101) = .wrScy 0xA5 ∧ decode (.portW 0b01000011 0b10100101) = .wrScx 0xA5 ∧
  decode (.portW 0b01000100 0b10100101) = .wrLy 0xA5 ∧ decode (.portW 0b01000101 0b10100101) = .wrLyc 0xA5 ∧
  decode (.portW 0b01000111 0b10100101) = .wrBgp 0xA5 ∧ decode (.portW 0b01001000 0b10100101) = .wrObp0 0xA5 ∧
  decode (.portW 0b01001001 0b10100101) = .wrObp1 0xA5 ∧ decode (.portW 0b01001010 0b10100101) = .wrWy 0xA5 ∧
  decode (.portW 0b01001011 0b10100101) = .wrWx 0xA5 ∧ decode (.portW 0b01001111 0b10100101) = .wrVbk 0xA5 := by
  decide

/-- Reads of unmapped ports, R107. -/
theorem test_decode_unmapped_reads :
  decode (.portR 0b00111111) = .rdUnmapped00To3F 0x3F ∧ decode (.portR 0b01000110) = .rdUnmapped46 ∧
  decode (.portR 0b01001100) = .rdUnmapped4C ∧ decode (.portR 0b01001101) = .rdUnmapped4D ∧
  decode (.portR 0b01001110) = .rdUnmapped4E ∧ decode (.portR 0b01010000) = .rdUnmapped50To5F 0x50 ∧
  decode (.portR 0b01100000) = .rdUnmapped60To7F 0x60 ∧ decode (.portR 0b10000000) = .rdUnmapped80ToFF 0x80 := by
  decide

/-- Writes of unmapped ports, R107. -/
theorem test_decode_unmapped_writes :
  decode (.portW 0b00111111 0b00000001) = .wrUnmapped00To3F 0x3F 0x01 ∧
  decode (.portW 0b01000110 0b00000001) = .wrUnmapped46 0x01 ∧
  decode (.portW 0b01001100 0b00000001) = .wrUnmapped4C 0x01 ∧
  decode (.portW 0b01001101 0b00000001) = .wrUnmapped4D 0x01 ∧
  decode (.portW 0b01001110 0b00000001) = .wrUnmapped4E 0x01 ∧
  decode (.portW 0b01010000 0b00000001) = .wrUnmapped50To5F 0x50 0x01 ∧
  decode (.portW 0b01100000 0b00000001) = .wrUnmapped60To7F 0x60 0x01 ∧
  decode (.portW 0b10000000 0b00000001) = .wrUnmapped80ToFF 0x80 0x01 := by
  decide

/-- VRAM addresses, R91. -/
theorem test_decode_vram :
  decode (.vramR 0b1000000000000000) = .vramRd 0x8000 ∧
  decode (.vramR 0b0111111111111111) = .vramRdOut0000To7FFF 0x7FFF ∧
  decode (.vramR 0b1010000000000000) = .vramRdOutA000ToBFFF 0xA000 ∧
  decode (.vramR 0b1100000000000000) = .vramRdOutC000ToFFFF 0xC000 ∧
  decode (.vramW 0b1000000000000000 0b11110000) = .vramWr 0x8000 0xF0 ∧
  decode (.vramW 0b0111111111111111 0b11110000) = .vramWrOut0000To7FFF 0x7FFF 0xF0 ∧
  decode (.vramW 0b1010000000000000 0b11110000) = .vramWrOutA000ToBFFF 0xA000 0xF0 ∧
  decode (.vramW 0b1100000000000000 0b11110000) = .vramWrOutC000ToFFFF 0xC000 0xF0 := by
  decide

/-- OAM offsets, R91. -/
theorem test_decode_oam :
  decode (.oamR 0b01111111) = .oamRd00To7F 0x7F ∧ decode (.oamR 0b10011111) = .oamRd80To9F 0x9F ∧
  decode (.oamR 0b10100000) = .oamRdOutA0ToBF 0xA0 ∧ decode (.oamR 0b11111111) = .oamRdOutC0ToFF 0xFF ∧
  decode (.oamW 0b01111111 0b00001111) = .oamWr00To7F 0x7F 0x0F ∧
  decode (.oamW 0b10011111 0b00001111) = .oamWr80To9F 0x9F 0x0F ∧
  decode (.oamW 0b10100000 0b00001111) = .oamWrOutA0ToBF 0xA0 0x0F ∧
  decode (.oamW 0b11111111 0b00001111) = .oamWrOutC0ToFF 0xFF 0x0F := by
  decide

/-- The step and frame interfaces, R90. -/
theorem test_decode_step_frame :
  decode (.step 0 0b11100000) = .step 0 0xE0 ∧ decode (.step 456 0) = .step 456 0 ∧
  decode (.step 457 0) = .stepRefused 457 0 ∧ decode .fbR = .frameRd := by
  decide

/-- Bytes of the model's own layout (log entry 8): an address has its low byte first, a cycle count follows IF. -/
theorem test_decode_bytes :
    decodeBytes .vramW [0xFE, 0x9F, 0x05] = .ok (.vramWr 0x9FFE 0x05) ∧
      decodeBytes .step [0xE0, 0xC8, 0x01] = .ok (.step 456 0xE0) ∧ decodeBytes .fbR [] = .ok .frameRd := ⟨rfl, rfl, rfl⟩

/-- Bytes that are no transaction of their interface are rejected by name. -/
theorem test_decode_bytes_rejected :
    decodeBytes .portR [] = .error .operandMissing ∧ decodeBytes .portW [0x40] = .error .operandMissing ∧
      decodeBytes .vramW [0x00, 0x80] = .error .operandMissing ∧ decodeBytes .step [] = .error .operandMissing ∧
      decodeBytes .oamR [0x00, 0x01] = .error .bytesLeftOver ∧ decodeBytes .fbR [0x00] = .error .bytesLeftOver :=
  ⟨rfl, rfl, rfl, rfl, rfl, rfl⟩

/-- The words of the opcode table (log entry 7). -/
theorem test_table_words :
  decodeTableWord 8 0x4F = some .rdVbk ∧ decodeTableWord 16 0x8000 = some (.vramRd 0x8000) ∧
  decodeTableWord 0 0 = some .frameRd ∧ decodeTableWord 12 0 = none := by
  decide

/-- The opcode table has 59 rows, no two of one name. -/
theorem test_table_rows :
  opcodeTable.length = 59 ∧ (opcodeTable.map TableRow.mnemonic).Nodup := by
  decide +kernel

/-! ### Register bank (95_test_vectors.md 2.1) -/

/-- A register bank with a different byte in each register. -/
def numbered : State :=
  { base with reg := { lcdc := 1, statEn := 0, scy := 2, scx := 3, lyc := 4, bgp := 5, obp0 := 6, obp1 := 7, wy := 8,
                       wx := 9, vbk := 0 } }

/-- Each register reads its own byte (R131, R135, R137, R141, R143, R145, R147, R149, R151). -/
theorem test_registers_read_their_own_byte :
  after .rdLcdc numbered (gives 1) = true ∧ after .rdScy numbered (gives 2) = true ∧
  after .rdScx numbered (gives 3) = true ∧ after .rdLyc numbered (gives 4) = true ∧
  after .rdBgp numbered (gives 5) = true ∧ after .rdObp0 numbered (gives 6) = true ∧
  after .rdObp1 numbered (gives 7) = true ∧ after .rdWy numbered (gives 8) = true ∧
  after .rdWx numbered (gives 9) = true := by
  decide +kernel

/-- Each register write stores to its own register (V40-2, V40-11, V40-14 to V40-17). -/
theorem test_registers_store_their_own_byte :
  after (.wrLcdc 0xA5) numbered (fun t => t.reg = { numbered.reg with lcdc := 0xA5 }) = true ∧
  after (.wrScy 0xA5) numbered (fun t => t.reg = { numbered.reg with scy := 0xA5 }) = true ∧
  after (.wrScx 0xA5) numbered (fun t => t.reg = { numbered.reg with scx := 0xA5 }) = true ∧
  after (.wrLyc 0xA5) numbered (fun t => t.reg = { numbered.reg with lyc := 0xA5 }) = true ∧
  after (.wrBgp 0xA5) numbered (fun t => t.reg = { numbered.reg with bgp := 0xA5 }) = true ∧
  after (.wrObp0 0xA5) numbered (fun t => t.reg = { numbered.reg with obp0 := 0xA5 }) = true ∧
  after (.wrObp1 0xA5) numbered (fun t => t.reg = { numbered.reg with obp1 := 0xA5 }) = true ∧
  after (.wrWy 0xA5) numbered (fun t => t.reg = { numbered.reg with wy := 0xA5 }) = true ∧
  after (.wrWx 0xA5) numbered (fun t => t.reg = { numbered.reg with wx := 0xA5 }) = true := by
  decide +kernel

/-- V40-3: the display-on edge restarts the line and counter and keeps the mode. -/
theorem test_lcdc_restart :
  after (.wrLcdc 0x91) (timed 77 300 .hBlank 0 0)
    (fun t => t.ly = 0 ∧ t.counter = 4 ∧ t.mode = .hBlank ∧ t.reg.lcdc = 0x91) = true := by
  decide +kernel

/-- V40-4 and V40-5: no other LCDC write restarts. -/
theorem test_lcdc_no_restart :
  after (.wrLcdc 0x93) ({ timed 5 100 .vramRead 0 0 with reg := screenOn 0x91 })
    (fun t => t.ly = 5 ∧ t.counter = 100 ∧ t.reg.lcdc = 0x93) = true ∧
  after (.wrLcdc 0x11) ({ timed 5 100 .vramRead 0 0 with reg := screenOn 0x91 })
    (fun t => t.ly = 5 ∧ t.counter = 100 ∧ t.reg.lcdc = 0x11) = true := by
  decide +kernel

/-- V40-6, V40-9, V40-10: STAT is composed on the read. -/
theorem test_stat_read :
  after .rdStat base (gives 0x06) = true ∧ after .rdStat (timed 5 0 .vramRead 0b1000 5) (gives 0x47) = true ∧
  after .rdStat (timed 144 0 .vBlank 0b1010 0) (gives 0x51) = true := by
  decide +kernel

/-- V40-7 and V40-8: a STAT write stores bits 6 to 3. -/
theorem test_stat_write :
  after (.wrStat 0xFF) base (fun t => t.reg.statEn = 0b1111) = true ∧
  after (.wrStat 0x87) base (fun t => t.reg.statEn = 0b0000) = true ∧
  after (.wrStat 0x40) base (fun t => t.reg.statEn = 0b1000) = true := by
  decide +kernel

/-- V40-12: LY reads the line and ignores writes. -/
theorem test_ly :
  after .rdLy (timed 10 0 .oamScan 0 0) (gives 0x0A) = true ∧
  after (.wrLy 0x00) (timed 10 0 .oamScan 0 0) (fun t => t.ly = 10) = true := by
  decide +kernel

/-- V40-15, V40-16: palette writes recompile their own palette. -/
theorem test_palette_writes :
  after (.wrBgp 0x1B) base (fun t => t.palBg = #v[cK, cD, cL, cW] ∧ t.palObp0 = #v[cW, cW, cW, cW]) = true ∧
  after (.wrObp0 0xD2) base (fun t => t.palObp0 = #v[cD, cW, cL, cK] ∧ t.palObp1 = #v[cW, cW, cW, cW]) = true ∧
  after (.wrObp1 0xFC) base (fun t => t.palObp1 = #v[cW, cK, cK, cK] ∧ t.palBg = #v[cW, cW, cW, cW]) = true := by
  decide +kernel

/-- V40-18 and V40-19: the bank select. -/
theorem test_vbk :
  after .rdVbk base (gives 0xFF) = true ∧ after (.wrVbk 0x01) base (fun t => t.reg.vbk = 0) = true ∧
  after .rdVbk baseX (gives 0xFE) = true ∧ after (.wrVbk 0x03) baseX (fun t => t.reg.vbk = 1) = true ∧
  after (.wrVbk 0x02) baseX (fun t => t.reg.vbk = 0) = true := by
  decide +kernel

/-- V40-20: unmapped ports read 0xFF. -/
theorem test_unmapped_reads :
  after (.rdUnmapped00To3F 0x3F) base (gives 0xFF) = true ∧ after (.rdUnmapped46) base (gives 0xFF) = true ∧
  after (.rdUnmapped4C) base (gives 0xFF) = true ∧ after (.rdUnmapped4D) base (gives 0xFF) = true ∧
  after (.rdUnmapped4E) base (gives 0xFF) = true ∧ after (.rdUnmapped50To5F 0x50) base (gives 0xFF) = true ∧
  after (.rdUnmapped60To7F 0x60) base (gives 0xFF) = true ∧ after (.rdUnmapped80ToFF 0x80) base (gives 0xFF) = true := by
  decide +kernel

/-- V40-21: writes to unmapped ports change nothing. -/
theorem test_unmapped_writes (s : State) :
  exec (.wrUnmapped00To3F 0x3F 0xC0) s = .next s ∧ exec (.wrUnmapped46 0xC0) s = .next s ∧
  exec (.wrUnmapped4C 0xC0) s = .next s ∧ exec (.wrUnmapped4D 0xC0) s = .next s ∧
  exec (.wrUnmapped4E 0xC0) s = .next s ∧ exec (.wrUnmapped50To5F 0x50 0xC0) s = .next s ∧
  exec (.wrUnmapped60To7F 0x60 0xC0) s = .next s ∧ exec (.wrUnmapped80ToFF 0x80 0xC0) s = .next s :=
  ⟨rfl, rfl, rfl, rfl, rfl, rfl, rfl, rfl⟩

/-! ### Mode state machine (95_test_vectors.md 2.2) -/

/-- A `Step` from a position, mode, enables and LYC with an IF byte ends at a position and mode, and answers. -/
def ticks (ly c : Nat) (m : Mode) (en : BitVec 4) (lyc : Byte) (n : Nat) (f : Byte) (ly' c' : Nat) (m' : Mode) (f' : Byte)
    (fd : Bool) : Bool :=
  after (.step n f) (timed ly c m en lyc) fun t =>
    decide (t.ly = ly' ∧ t.counter = c' ∧ t.mode = m' ∧ t.results = [.stepped f' fd])

/-- V41-1 to V41-23, V41-26, V41-28 to V41-32. -/
theorem test_step_vectors :
  ticks 0 0 .oamScan 0b0000 0 0 0x00 0 0 .oamScan 0x00 false = true ∧
  ticks 0 0 .oamScan 0b0000 0 80 0x00 0 80 .oamScan 0x00 false = true ∧
  ticks 0 80 .oamScan 0b1111 0 1 0x00 0 81 .vramRead 0x00 false = true ∧
  ticks 0 252 .vramRead 0b0000 0 1 0x00 0 253 .hBlank 0x00 false = true ∧
  ticks 0 252 .vramRead 0b0001 0 1 0x00 0 253 .hBlank 0x02 false = true ∧
  ticks 0 455 .hBlank 0b0000 0 1 0x00 1 0 .oamScan 0x00 false = true ∧
  ticks 0 455 .hBlank 0b0100 0 1 0x00 1 0 .oamScan 0x02 false = true ∧
  ticks 7 450 .hBlank 0b0000 0 10 0x00 8 4 .oamScan 0x00 false = true ∧
  ticks 143 455 .hBlank 0b0000 0 1 0x00 144 0 .vBlank 0x01 true = true ∧
  ticks 143 455 .hBlank 0b0010 0 1 0x00 144 0 .vBlank 0x03 true = true ∧
  ticks 143 455 .hBlank 0b1010 144 1 0x00 144 0 .vBlank 0x03 true = true ∧
  ticks 144 455 .vBlank 0b0010 0 1 0x00 145 0 .vBlank 0x00 false = true ∧
  ticks 150 10 .vBlank 0b1111 150 100 0x00 150 110 .vBlank 0x00 false = true ∧
  ticks 147 455 .vBlank 0b1000 148 1 0x00 148 0 .vBlank 0x02 false = true ∧
  ticks 153 450 .vBlank 0b0100 0 8 0x00 0 2 .oamScan 0x02 false = true ∧
  ticks 153 455 .vBlank 0b1000 0 1 0x00 0 0 .oamScan 0x02 false = true ∧
  ticks 9 400 .hBlank 0b1000 10 60 0x00 10 4 .oamScan 0x02 false = true ∧
  ticks 9 400 .hBlank 0b0000 10 60 0x00 10 4 .oamScan 0x00 false = true ∧
  ticks 5 0 .oamScan 0b1111 0 456 0x00 6 0 .oamScan 0x00 false = true ∧
  ticks 5 250 .vramRead 0b0001 0 210 0x00 6 4 .oamScan 0x00 false = true ∧
  ticks 5 250 .vramRead 0b0101 0 210 0x00 6 4 .oamScan 0x02 false = true ∧
  ticks 7 455 .hBlank 0b0100 0 82 0x00 8 81 .vramRead 0x00 false = true ∧
  ticks 10 200 .vramRead 0b0001 0 456 0x00 11 200 .vramRead 0x00 false = true ∧
  ticks 0 300 .hBlank 0b0001 0 100 0x00 0 400 .hBlank 0x00 false = true ∧
  ticks 0 300 .hBlank 0b0001 0 50 0x00 0 350 .hBlank 0x00 false = true ∧
  ticks 0 300 .oamScan 0b0001 0 0 0x00 0 300 .hBlank 0x02 false = true ∧
  ticks 100 0 .oamScan 0b0001 0 253 0x00 100 253 .hBlank 0x02 false = true ∧
  ticks 143 455 .hBlank 0b0000 0 1 0xE0 144 0 .vBlank 0xE1 true = true ∧
  ticks 0 4 .vBlank 0b0100 0 0 0x00 0 4 .oamScan 0x02 false = true := by
  decide +kernel

/-- V41-27 and V60-4: 457 cycles are refused. -/
theorem test_step_refused : exec (.stepRefused 457 0x00) base = .refused .stepTooLong := rfl

/-! ### Tile cache and palettes (95_test_vectors.md 2.3 and 2.5) -/

/-- V42-1 to V42-7: tile rows decode. -/
theorem test_tile_rows :
  (List.finRange 8).map (decodePixel 0x00 0x00) = [0, 0, 0, 0, 0, 0, 0, 0] ∧
  (List.finRange 8).map (decodePixel 0xFF 0xFF) = [3, 3, 3, 3, 3, 3, 3, 3] ∧
  (List.finRange 8).map (decodePixel 0xFF 0x00) = [1, 1, 1, 1, 1, 1, 1, 1] ∧
  (List.finRange 8).map (decodePixel 0x00 0xFF) = [2, 2, 2, 2, 2, 2, 2, 2] ∧
  (List.finRange 8).map (decodePixel 0x1B 0x6A) = [0, 2, 2, 1, 3, 0, 3, 1] ∧
  (List.finRange 8).map (decodePixel 0x80 0x01) = [1, 0, 0, 0, 0, 0, 0, 2] ∧
  (List.finRange 8).map (decodePixel 0xF0 0x0F) = [1, 1, 1, 1, 2, 2, 2, 2] := by
  decide +kernel

/-- V42-8 to V42-12: tile numbers. -/
theorem test_tile_numbers :
  bgTile 0x05 true = 5 ∧ bgTile 0x05 false = 261 ∧ bgTile 0x00 false = 256 ∧ bgTile 0x7F false = 383 ∧
  bgTile 0x80 false = 128 ∧ bgTile 0xFF false = 255 ∧ bgTile 0x80 true = 128 ∧ bgTile 0xFF true = 255 ∧
  objTile 0x80 = 128 := by
  decide +kernel

/-- V42-13, V42-14, V42-16: a write marks its tile, by address and not by value. -/
theorem test_vram_write_marks :
  after (.vramWr 0x8010 0xFF) base (fun t => t.dirty[1] && !t.dirty[0] && t.anyDirty) = true ∧
  after (.vramWr 0x97FF 0x00) base (fun t => t.dirty[383] && t.anyDirty && decide (t.vram0 = [])) = true ∧
  after (.vramWr 0x9800 0x01) base (fun t => !t.anyDirty) = true := by
  decide +kernel

/-- V42-17: bank 1 is written and read when selected, and marks nothing. -/
theorem test_bank_one :
  after (.vramWr 0x8010 0xFF) ({ baseX with reg := { Regs.reset with vbk := 1 } })
    (fun t => decide (t.vram1 = [(0x10, 0xFF)] ∧ t.vram0 = []) && !t.anyDirty) = true ∧
  after (.vramRd 0x8010) ({ baseX with vram1 := [(0x10, 0xFF)] }) (gives 0x00) = true := by
  decide +kernel

/-- V44-1 to V44-8: palettes compile. -/
theorem test_compile :
  compile Config.monochrome 0xE4 = #v[cW, cL, cD, cK] ∧ compile Config.monochrome 0x1B = #v[cK, cD, cL, cW] ∧
  compile Config.monochrome 0xD2 = #v[cD, cW, cL, cK] ∧ compile Config.monochrome 0x00 = #v[cW, cW, cW, cW] ∧
  compile Config.monochrome 0xFF = #v[cK, cK, cK, cK] ∧ compile Config.monochrome 0x55 = #v[cL, cL, cL, cL] ∧
  compile Config.monochrome 0x27 = #v[cK, cL, cD, cW] ∧ compile Config.monochrome 0xFC = #v[cW, cK, cK, cK] := by
  decide +kernel

/-! ### Scanline renderer (95_test_vectors.md 2.4) -/

/-- V43-1 to V43-3, V43-14: display off, background off, one tile, a window past the screen. -/
theorem test_render_background :
  draws 10 (screenOn 0x11) [] [(1, solid 1)] [(160, cZ)] = true ∧
  draws 3 (screenOn 0x80) [] [(1, solid 1)] [(160, cZ)] = true ∧
  draws 0 (screenOn 0x91) [(0x1800, 1)] [(1, solid 1)] [(8, cL), (152, cW)] = true ∧
  draws 0 ({ screenOn 0xB1 with wx := 167 }) [(0x1800, 1)] [(1, solid 1)] [(8, cL), (152, cW)] = true := by
  decide +kernel

/-- V43-4 to V43-6: the scrolls. -/
theorem test_render_scroll :
  draws 0 ({ screenOn 0x91 with scx := 4 }) [(0x1800, 1)] [(1, solid 1)] [(4, cL), (156, cW)] = true ∧
  draws 0 ({ screenOn 0x91 with scx := 252 }) [(0x1800, 1)] [(1, solid 1)] [(4, cW), (8, cL), (148, cW)] = true ∧
  draws 1 ({ screenOn 0x91 with scy := 0xFF }) [(0x1800, 1)] [(1, solid 1)] [(8, cL), (152, cW)] = true := by
  decide +kernel

/-- V43-8 to V43-10: signed tile numbers and the two maps. -/
theorem test_render_tile_numbers :
  draws 0 (screenOn 0x81) [] [(256, solid 3)] [(160, cK)] = true ∧
  draws 0 (screenOn 0x81) [(0x1800, 0x80)] [(128, solid 2)] [(8, cD), (152, cW)] = true ∧
  draws 0 (screenOn 0x99) [(0x1800, 2), (0x1C00, 1)] [(1, solid 1), (2, solid 3)] [(8, cL), (152, cW)] = true := by
  decide +kernel

/-- V43-11 to V43-13: the window, on its own map, from its own line, and beginning left of the screen. -/
theorem test_render_window :
  draws 0 ({ screenOn 0xF1 with wx := 7 }) [(0x1C00, 2)] [(2, solid 3)] [(8, cK), (152, cW)] = true ∧
  draws 10 ({ screenOn 0xB1 with wy := 10, wx := 87 }) [(0x1800, 1)] [(1, solid 1)] [(80, cW), (8, cL), (72, cW)] = true ∧
  draws 0 (screenOn 0xB0) [(0x1800, 1)] [(1, topRow #v[0, 0, 0, 0, 0, 0, 0, 1])] [(1, cL), (159, cW)] = true := by
  decide +kernel

/-- V43-15, V43-16, V43-17 to V43-19, E6: the lines and columns a sprite is on. -/
theorem test_sprite_place :
  (⟨16, 8, 1, 0⟩ : Sprite).onLine 8 0 = true ∧ (⟨16, 8, 1, 0⟩ : Sprite).onLine 8 7 = true ∧
  (⟨16, 8, 1, 0⟩ : Sprite).onLine 8 8 = false ∧ (⟨16, 8, 1, 0⟩ : Sprite).left = 0 ∧
  (⟨16, 0, 1, 0⟩ : Sprite).left = -8 ∧ (⟨16, 4, 1, 0⟩ : Sprite).left = -4 ∧ (⟨16, 164, 1, 0⟩ : Sprite).left = 156 ∧
  (⟨0, 8, 1, 0⟩ : Sprite).onLine 8 0 = false := by
  decide

/-- V43-22 to V43-26: flips and 16-pixel sprites. -/
theorem test_sprite_rows_and_columns :
  (⟨16, 8, 2, 0⟩ : Sprite).column 0 = 0 ∧ (⟨16, 8, 2, 0x20⟩ : Sprite).column 7 = 0 ∧
  (⟨16, 8, 2, 0x40⟩ : Sprite).row 8 0 = 7 ∧ (⟨16, 8, 3, 0⟩ : Sprite).tileOf 16 0 = 2 ∧
  (⟨16, 8, 3, 0⟩ : Sprite).tileOf 16 8 = 3 ∧ (⟨16, 8, 3, 0x40⟩ : Sprite).row 16 0 = 15 ∧
  (⟨16, 8, 3, 0x40⟩ : Sprite).tileOf 16 15 = 3 ∧ (⟨16, 8, 3, 0⟩ : Sprite).tileOf 8 0 = 3 := by
  decide

/-- P2 of 95_test_vectors.md: order, flips, palettes and the behind flag together; the marks and priorities too. -/
theorem test_render_sprites :
    after (.step 1 0x00)
      (scene 0 (screenOn 0x93) [(0x1801, 0x03)]
        [(0, 16), (1, 8), (2, 1), (4, 16), (5, 12), (6, 2), (7, 0x30), (8, 16), (9, 16), (10, 1), (11, 0x80), (12, 16),
         (13, 15), (14, 2), (16, 16), (17, 17), (18, 2)]
        [(1, topRow #v[1, 1, 1, 1, 2, 2, 2, 2]), (2, topRow #v[3, 0, 0, 0, 0, 0, 0, 0]), (3, solid 2)])
      (fun t => decide (t.fb[0].toList =
          List.replicate 4 cL ++ List.replicate 4 cD ++ [cD, cK, cD, cW] ++ List.replicate 4 cD ++ List.replicate 144 cW ∧
        t.prio.toList = List.replicate 8 0 ++ List.replicate 8 2 ++ List.replicate 144 0 ∧
        t.spriteDone.toList = List.replicate 8 true ++ [false, true, false, true] ++ List.replicate 148 false)) = true := by
  decide +kernel

/-- V42-18: a dirty tile is decoded from the current bytes and its flag cleared; a clean one is left. -/
theorem test_refresh_tile :
    (let r := refreshTile [(0x10, 0xFF)] (base.cache, base.dirty.set 1 true) 1
     r.1[1][0] = #v[1, 1, 1, 1, 1, 1, 1, 1] ∧ r.2[1] = false) ∧
    (let r := refreshTile [(0x10, 0xFF)] (base.cache, base.dirty) 1
     r.1[1][0] = #v[0, 0, 0, 0, 0, 0, 0, 0]) := by
  decide +kernel

/-! ### VRAM, OAM and frame-buffer ports (95_test_vectors.md 2.6) -/

/-- V45-1, V45-2, V45-3: window reads, and reads outside. -/
theorem test_vram_reads :
  after (.vramRd 0x8000) ({ base with vram0 := [(0, 0x3C), (0x1FFF, 0xA5)] }) (gives 0x3C) = true ∧
  after (.vramRd 0x9FFF) ({ base with vram0 := [(0, 0x3C), (0x1FFF, 0xA5)] }) (gives 0xA5) = true ∧
  after (.vramRdOut0000To7FFF 0x7FFF) base (gives 0xFF) = true ∧
  after (.vramRdOutA000ToBFFF 0xA000) base (gives 0xFF) = true ∧
  after (.vramRdOutC000ToFFFF 0xC000) base (gives 0xFF) = true := by
  decide +kernel

/-- V45-2: a window write. -/
theorem test_vram_write :
  after (.vramWr 0x9FFF 0xA5) base (fun t => decide (t.vram0 = [(0x1FFF, 0xA5)]) && !t.anyDirty) = true := by
  decide +kernel

/-- V45-4: writes outside the window change nothing. -/
theorem test_vram_writes_outside (s : State) :
  exec (.vramWrOut0000To7FFF 0x7FFF 0x12) s = .next s ∧ exec (.vramWrOutA000ToBFFF 0xA000 0x12) s = .next s ∧
  exec (.vramWrOutC000ToFFFF 0xC000 0x12) s = .next s :=
  ⟨rfl, rfl, rfl⟩

/-- V45-5 to V45-7: sprite-table reads, and reads past it. -/
theorem test_oam_reads :
  after (.oamRd00To7F 0x00) ({ base with oam := [(0, 0x10), (159, 0x0F)] }) (gives 0x10) = true ∧
  after (.oamRd80To9F 159) ({ base with oam := [(0, 0x10), (159, 0x0F)] }) (gives 0x0F) = true ∧
  after (.oamRdOutA0ToBF 160) base (gives 0xFF) = true ∧ after (.oamRdOutC0ToFF 0xFF) base (gives 0xFF) = true := by
  decide +kernel

/-- V45-6: sprite-table writes. -/
theorem test_oam_writes :
  after (.oamWr00To7F 0x00 0x10) base (fun t => t.oam = [(0, 0x10)]) = true ∧
  after (.oamWr80To9F 159 0x0F) base (fun t => t.oam = [(159, 0x0F)]) = true := by
  decide +kernel

/-- V45-8: writes past the sprite table change nothing. -/
theorem test_oam_writes_outside (s : State) :
  exec (.oamWrOutA0ToBF 0xA0 0x01) s = .next s ∧ exec (.oamWrOutC0ToFF 0xFF 0x01) s = .next s :=
  ⟨rfl, rfl⟩

/-- V45-10, on a frame whose first row is 8 L and 152 W: the first bytes of `FRAME`. -/
theorem test_frame_read :
    after .frameRd { base with fb := base.fb.set 0 (Vector.ofFn fun x : Fin 160 => if x.val < 8 then cL else cW) }
      (fun t => match t.results with
        | [.frame bytes] => decide (bytes.take 32 = (List.replicate 8 [0xC0, 0xC0, 0xC0, 0xFF]).flatten ∧
            (bytes.drop 32).take 8 = List.replicate 8 0xFF)
        | _ => false) = true := by
  decide +kernel

/-! ### Witnesses: for every obligation with hypotheses, concrete inputs that meet them -/

/-- A state in the middle of a frame: tile 1 written and not yet decoded, display, background, sprites and
window on (from column 80), one sprite, a step waiting. -/
def busy : State :=
  { base with
    ly := 3, counter := 250, mode := .vramRead
    reg := { Regs.reset with lcdc := 0xB3, bgp := 0xE4, statEn := 0b1111, lyc := 3, wx := 87 }
    vram0 := [(0x10, 0xFF), (0x16, 0xFF), (0x1800, 1)], oam := [(0, 16), (1, 8), (2, 1)]
    dirty := base.dirty.set 1 true, anyDirty := true
    palBg := compile Config.monochrome 0xE4
    inbox := [.step 4 0] }

theorem zero_tile_decoded (t : Fin 384) (m : Memory) (h : ∀ k, k < 16 → m.read (16 * t.val + k) = 0x00) :
    (Vector.replicate 8 (Vector.replicate 8 0) : Tile) = decodeTile m t.val := by
  unfold decodeTile
  ext r hr c hc : 2
  simp only [Vector.getElem_replicate, Vector.getElem_ofFn, decodePixel]
  rw [h (2 * r) (by omega), show 16 * t.val + 2 * r + 1 = 16 * t.val + (2 * r + 1) by omega, h (2 * r + 1) (by omega)]
  simp

theorem base_read (k : Nat) : Memory.read [] k = 0x00 := rfl

theorem busy_read (k : Nat) (h1 : k ≠ 0x10) (h2 : k ≠ 0x16) (h3 : k ≠ 0x1800) : busy.vram0.read k = 0x00 := by
  simp [busy, Memory.read, Ne.symm h1, Ne.symm h2, Ne.symm h3, Memory.unlisted]

theorem busy_cacheCoherent : CacheCoherent busy := by
  intro t ht
  have h1 : t.val ≠ 1 := by
    intro h
    have : t = (1 : Fin 384) := Fin.ext h
    subst this
    exact absurd ht (by simp [busy])
  have hc : busy.cache[t] = Vector.replicate 8 (Vector.replicate 8 0) := by simp [busy, base, State.resetWith]
  rw [hc]
  exact zero_tile_decoded t _ fun k hk => busy_read _ (by omega) (by omega) (by omega)

theorem busy_flagsCoherent : FlagsCoherent busy := fun h => absurd h (by decide)

theorem busy_canonical : MemoriesCanonical busy := ⟨by decide, by decide, by decide⟩

/-- The states the invariant speaks of are not empty: `busy` meets it. -/
theorem busy_inv : Inv busy where
  position := ⟨by decide, by decide⟩
  vblankHeld := fun h => absurd h (by decide)
  cache := busy_cacheCoherent
  flags := busy_flagsCoherent
  palettes := ⟨rfl, rfl, rfl⟩
  memories := busy_canonical
  prio := fun x => by simp [busy, base, State.resetWith]
  secondBank := fun _ => ⟨rfl, rfl⟩

theorem witness_DecodeReadsBackEveryInstruction :
    (Instr.vramWr 0x8000 0xA5).wf = true ∧ (Instr.vramWr 0x9FFF 0xA5).wf = true ∧ (Instr.step 456 0xFF).wf = true ∧
      (Instr.stepRefused 457 0x00).wf = true := by decide

theorem witness_DecodedBytesAreTheInstructions :
    decodeBytes .portW [0x41, 0xFF] = .ok (.wrStat 0xFF) ∧ Interface.portW ≠ Interface.step := ⟨rfl, by decide⟩

theorem witness_PortMapSelectsByExactValue :
    (∀ p ∈ [0x00, 0x3F, 0x46, 0x4C, 0x4E, 0x50, (0xFF : Byte)],
      p ∉ [0x40, 0x41, 0x42, 0x43, 0x44, 0x45, 0x47, 0x48, 0x49, 0x4A, 0x4B, (0x4F : Byte)]) := by decide

theorem witness_WindowAndTableAreDecodedByTheirBits :
    (0x8000 : Addr).extractLsb' 13 3 = 0b100 ∧ (0x9FFF : Addr).extractLsb' 13 3 = 0b100 ∧
      (0x7FFF : Addr).extractLsb' 13 3 ≠ 0b100 ∧ (0xA000 : Addr).extractLsb' 13 3 ≠ 0b100 ∧
      (159 : Byte).toNat ≤ 159 ∧ ¬ (160 : Byte).toNat ≤ 159 := by decide

theorem witness_StepRunsTheOldestTransaction :
    (Instr.step 4 0).wf = true ∧ busy.inbox = encode (.step 4 0) :: [] ∧ base.inbox = [] := ⟨by decide, rfl, rfl⟩

theorem witness_EveryOtherOperationCompletes :
    (Instr.step 456 0).wf = true ∧ ∀ n f, Instr.step 456 0 ≠ .stepRefused n f := ⟨by decide, fun _ _ => nofun⟩

theorem witness_ParametersNeverChange : ∃ t, exec .rdLcdc busy = .next t ∧ t.results = .byte 0xB3 :: busy.results :=
  ⟨_, rfl, rfl⟩

theorem witness_EveryStepKeepsTheInvariant : Inv busy ∧ ∃ t, step busy = .next t :=
  ⟨busy_inv, _, exec_step_ok 4 0 (busy.setInbox []) (by decide)⟩

/-- Each clause has an operation that changes the field. -/
theorem witness_EachFieldChangesOnlyByItsWriters :
    after (.step 1 0) base (fun t => t.counter ≠ base.counter) = true ∧
    after (.wrLcdc 0x80) base (fun t => t.counter ≠ base.counter) = true ∧
    after (.step 81 0) base (fun t => t.mode ≠ base.mode) = true ∧
    after (.wrScx 1) base (fun t => t.reg ≠ base.reg) = true ∧
    after (.vramWr 0x8000 1) base (fun t => t.vram0 ≠ base.vram0) = true ∧
    after (.oamWr00To7F 0 1) base (fun t => t.oam ≠ base.oam) = true ∧
    after (.vramWr 0x8000 1) base (fun t => t.anyDirty ≠ base.anyDirty) = true ∧
    after (.wrBgp 1) base (fun t => t.palBg ≠ base.palBg) = true ∧
    after (.wrObp0 1) base (fun t => t.palObp0 ≠ base.palObp0) = true ∧
    after (.wrObp1 1) base (fun t => t.palObp1 ≠ base.palObp1) = true := by decide +kernel

/-- A render changes the frame buffer, the scratch and, with a dirty tile, the cache. -/
theorem witness_EachFieldChangesOnlyByItsWriters_render :
    after (.step 1 0) (scene 0 (screenOn 0x91) [(0x1800, 1)] [] [(1, solid 1)])
      (fun t => t.fb[0][0] ≠ cZ && t.prio[0] ≠ 0) = true := by decide +kernel

theorem witness_ReadsChangeNothing :
    Instr.rdStat.isRead = true ∧ (Instr.vramRd 0x8000).isRead = true ∧ (Instr.oamRd80To9F 159).isRead = true ∧
      Instr.frameRd.isRead = true := by decide

theorem witness_WritesAreIdempotent :
    MemoriesCanonical busy ∧ (Instr.wrLcdc 0x80).isWrite = true ∧ (Instr.vramWr 0x8010 0).isWrite = true ∧
      (Instr.oamWr00To7F 0 0).isWrite = true := ⟨busy_canonical, by decide, by decide, by decide⟩

theorem witness_StoredRegistersReadBack :
    (0x40 : Byte) ∈ [0x40, 0x42, 0x43, 0x45, 0x47, 0x48, 0x49, 0x4A, (0x4B : Byte)] := by decide

theorem witness_StatReadIsComposed :
    (timed 153 0 .vBlank 0 154).ly ≤ 153 ∧ 154 ≤ (timed 153 0 .vBlank 0 154).reg.lyc.toNat ∧
      154 ≤ (timed 0 0 .oamScan 0 255).reg.lyc.toNat := by decide

theorem witness_LyReadsAsTheLineAndIgnoresWrites :
    (timed 153 455 .vBlank 0 0).ly ≤ 153 ∧ after (.step 1 0) (timed 153 455 .vBlank 0 0) (fun t => t.ly ≠ 153) = true ∧
      after (.wrLcdc 0x80) (timed 153 455 .vBlank 0 0) (fun t => t.ly ≠ 153) = true := by decide +kernel

theorem witness_BankSelectWorksInExtendedModeOnly :
    baseX.cfg.extendedMode = true ∧ base.cfg.extendedMode = false := ⟨rfl, rfl⟩

/-- The restart, both ways of no restart, and a step that still ends on line 0 after a restart. -/
theorem witness_LcdcWriteStoresAndRestarts :
    base.reg.lcdc.getLsbD 7 = false ∧ (0x80 : Byte).getLsbD 7 = true ∧ busy.reg.lcdc.getLsbD 7 = true ∧
      (0x7F : Byte).getLsbD 7 = false ∧ base.cfg.lcdEnableCycleOffset.val + 451 ≤ 455 := by decide

theorem witness_UnmappedPortsReadOnesAndIgnoreWrites :
    (0x3F : Byte).toNat ≤ 0x3F ∧ 0x4C ≤ (0x4C : Byte).toNat ∧ (0x4E : Byte).toNat ≤ 0x4E ∧
      0x50 ≤ (0x50 : Byte).toNat := by decide

theorem witness_RegisterOperationsTouchNoPicture :
    Instr.rdStat.onRegisterPort = true ∧ (Instr.wrVbk 1).onRegisterPort = true ∧
      (Instr.wrUnmapped46 0).onRegisterPort = true := by decide

theorem witness_VramReadReturnsTheStoredByte :
    0x8000 ≤ (0x8000 : Addr).toNat ∧ (0x9FFF : Addr).toNat ≤ 0x9FFF ∧ (0x7FFF : Addr).toNat < 0x8000 ∧
      0x9FFF < (0xA000 : Addr).toNat := by decide

theorem witness_VramWriteStoresAndMarksItsTile :
    MemoriesCanonical busy ∧ 0x8000 ≤ (0x8000 : Addr).toNat ∧ (0x9FFF : Addr).toNat ≤ 0x9FFF ∧
      (0x7FFF : Addr).toNat < 0x8000 ∧ 0x9FFF < (0xA000 : Addr).toNat :=
  ⟨busy_canonical, by decide, by decide, by decide, by decide⟩

theorem witness_OamReadReturnsTheStoredByte :
    (0x7F : Byte).toNat ≤ 0x7F ∧ 0x80 ≤ (0x80 : Byte).toNat ∧ (159 : Byte).toNat ≤ 159 ∧ 160 ≤ (160 : Byte).toNat := by
  decide

theorem witness_OamWriteStoresTheByte :
    MemoriesCanonical busy ∧ (0x7F : Byte).toNat ≤ 0x7F ∧ 0x80 ≤ (0x80 : Byte).toNat ∧ (159 : Byte).toNat ≤ 159 ∧
      160 ≤ (160 : Byte).toNat := ⟨busy_canonical, by decide, by decide, by decide, by decide⟩

theorem witness_AccessesOutsideReadOnesAndStoreNothing :
    (0x7FFF : Addr).toNat < 0x8000 ∧ 0x9FFF < (0xA000 : Addr).toNat ∧ 160 ≤ (160 : Byte).toNat := by decide

theorem witness_AccessesIgnoreModeAndLine :
    Instr.rdLy.isStep = false ∧ Instr.rdLy ≠ .rdStat ∧ Instr.rdStat ≠ .rdLy ∧ (Instr.wrStat 0).isStep = false ∧
      Instr.wrStat 0 ≠ .rdLy ∧ ∀ d, Instr.wrStat 0 ≠ .wrLcdc d :=
  ⟨by decide, by decide, by decide, by decide, by decide, fun _ => nofun⟩

theorem witness_StepTooLongIsRefused : 456 < 457 ∧ 456 ≤ 456 := by decide

theorem witness_OnlyTheLongStepIsRefused :
    (Instr.stepRefused 457 0).wf = true ∧ exec (.stepRefused 457 0) busy = .refused .stepTooLong ∧ 456 < 457 ∧
      (∃ s', runOperations base [.portR 0x46] = (s', none) ∧ s'.results = [.byte 0xFF]) ∧
      ∃ h', runProgram (HostRun.start (cfg false)) [.rd 0x46] = .next h' ∧ h'.st.results = [.byte 0xFF] :=
  ⟨by decide, rfl, by decide, ⟨_, rfl, rfl⟩, _, rfl, rfl⟩

/-- R346, R347: the host clears its IF between two STEPs; the run then refused is observed by the results before, the
refusal last, with no final state. -/
theorem test_observe_refused_run :
    (observeOperations (timed 143 455 .hBlank 0 0) [.step 1 0xE0, .step 1 0x00, .step 457 0x00, .portR 0x40]).sequence =
        [.result (.stepped 0xE1 true), .result (.stepped 0x00 false), .refused .stepTooLong] ∧
      (observeRun (cfg false) [.portR 0x46, .step 457 0x00]).final = none := by
  decide +kernel

/-- R110, R347: a program refused at its second line is observed by the first one's result, then the refusal. -/
theorem test_observe_refused_program :
    observeProgram (cfg false) [.rd 0x46, .step 457, .rd 0x40] =
      { sequence := [.result (.byte 0xFF), .refused .stepTooLong], final := none } := rfl

theorem witness_StepMovesThePosition :
    456 ≤ (timed 153 455 .vBlank 0 0).counter + 1 ∧ (timed 153 455 .vBlank 0 0).counter + 0 < 456 := by decide

/-- The thresholds of the three modes are reached. -/
theorem witness_StepTakesTheModeOfTheCounter :
    after (.step 80 0) base (fun t => t.ly < 144 ∧ t.counter = 80) = true ∧
    after (.step 81 0) base (fun t => t.ly < 144 ∧ t.counter = 81) = true ∧
    after (.step 252 0) base (fun t => t.ly < 144 ∧ t.counter = 252) = true ∧
    after (.step 253 0) base (fun t => t.ly < 144 ∧ t.counter = 253) = true := by decide +kernel

/-- V-blank entry from line 143, and a step that is none. -/
theorem witness_VBlankEntrySignalsTheFrame :
    let s := timed 143 455 .hBlank 0b1010 144
    (456 ≤ s.counter + 1 ∧ 144 ≤ (s.ly + 1) % 154 ∧ s.mode ≠ .vBlank ∧ (144 ≤ s.ly → s.mode = .vBlank) ∧ s.ly ≤ 153) ∧
      ¬ (456 ≤ s.counter + 0 ∧ 144 ≤ (s.ly + 1) % 154 ∧ s.mode ≠ .vBlank) ∧
      after (.step 1 0) (timed 144 455 .vBlank 0 0) (fun t => 144 ≤ t.ly) = true := by decide +kernel

theorem witness_HBlankEntryRendersTheLine :
    let s := timed 143 252 .vramRead 0b0001 0
    lyAfter 1 s = (143 : Fin 144).val ∧ 253 ≤ counterAfter 1 s ∧ s.mode ≠ .hBlank ∧ s.reg.statEn.getLsbD 0 = true := by
  decide +kernel

theorem witness_StepLeavesTheRestAlone :
    ¬ (enters .hBlank 456 base = true ∧ base.reg.lcdc.getLsbD 7 = true) ∧ (0 : Fin 144).val ≠ busy.ly := by decide +kernel

theorem witness_LcdcDoesNotGateStep : 456 ≤ 456 ∧ (0x7F : Byte).getLsbD 7 = false := by decide

theorem witness_StepRestoresTheMode : VBlankHeld base ∧ VBlankHeld (timed 144 0 .vBlank 0 0) ∧ VBlankHeld busy :=
  ⟨fun h => absurd h (by decide), fun _ => rfl, busy_inv.vblankHeld⟩

theorem witness_StepAdvancesTheFramePosition : PositionOk base ∧ PositionOk (timed 153 455 .vBlank 0 0) :=
  ⟨⟨by decide, by decide⟩, by decide, by decide⟩

theorem witness_ShortStepsSkipNoMode :
    PositionOk (timed 143 455 .hBlank 0 0) ∧ ModeFollows (timed 143 455 .hBlank 0 0) ∧ 81 ≤ 81 ∧
      after (.step 81 0) (timed 143 455 .hBlank 0 0) (fun t => t.ly ≠ 143) = true :=
  ⟨⟨by decide, by decide⟩, ⟨fun h => absurd h (by decide), fun _ => rfl⟩, by decide, by decide +kernel⟩

theorem witness_AFrameOfStepsReturnsToItsLine :
    PositionOk (HostRun.start (cfg false)).st ∧ ModeFollows (HostRun.start (cfg false)).st ∧
      (∀ n ∈ List.replicate 154 456, n ≤ 456) ∧ (List.replicate 154 456).sum = 70224 :=
  ⟨⟨by decide, by decide⟩, ⟨fun h => absurd h (by decide), fun _ => rfl⟩,
    fun _ h => Nat.le_of_eq (List.eq_of_mem_replicate h), by simp⟩

theorem witness_MapBytesSelectTheirTiles : (127 : Byte).toNat ≤ 127 ∧ 128 ≤ (128 : Byte).toNat := by decide

theorem witness_RefreshDecodesTheDirtyTiles :
    busy.anyDirty = true ∧ busy.reg.lcdc.getLsbD 7 = true ∧ base.anyDirty = false ∧ base.reg.lcdc.getLsbD 7 = false :=
  ⟨rfl, by decide, rfl, by decide⟩

theorem witness_TileLookupHasAGuard : 384 ≤ 384 ∧ 383 < 384 := by decide

theorem witness_DisplayOffRendersNothing : (timed 0 0 .hBlank 0 0).reg.lcdc.getLsbD 7 = false := by decide

/-- The background off with the sprites off; the window off, below the line, and right of the column. -/
theorem witness_DisabledBackgroundKeepsThePixels :
    let s := scene 9 { screenOn 0xA0 with wy := 10, wx := 8 } [] [] []
    s.reg.lcdc.getLsbD 0 = false ∧ s.reg.lcdc.getLsbD 1 = false ∧ base.reg.lcdc.getLsbD 5 = false ∧
      (9 : Fin 144).val < s.reg.wy.toNat ∧ (0 : Fin 160).val + 7 < s.reg.wx.toNat := by decide +kernel

/-- The first column and line of a window, and the ones just before. -/
theorem witness_WindowLayerWritesItsRegion :
    let s := scene 10 { screenOn 0xA0 with wy := 10, wx := 8 } [] [] []
    (s.reg.wy.toNat ≤ 10 ∧ s.reg.wx.toNat ≤ (1 : Fin 160).val + 7) ∧ 9 < s.reg.wy.toNat ∧
      (0 : Fin 160).val + 7 < s.reg.wx.toNat := by decide +kernel

theorem witness_SpriteFieldsSelectItsPixel :
    39 < 40 ∧ (⟨16, 8, 1, 0x60⟩ : Sprite).onLine 16 15 = true ∧ (⟨16, 8, 1, 0x00⟩ : Sprite).onLine 8 0 = true ∧
      15 < 16 := by decide

/-- R94, R102: the four bytes of entries 0 and 39. -/
theorem test_sprite_entry_bytes :
    spriteAt [(0, 1), (1, 2), (2, 3), (3, 4), (156, 5), (157, 6), (158, 7), (159, 8)] 0 = ⟨1, 2, 3, 4⟩ ∧
      spriteAt [(0, 1), (1, 2), (2, 3), (3, 4), (156, 5), (157, 6), (158, 7), (159, 8)] 39 = ⟨5, 6, 7, 8⟩ := by decide

/-- A column that passes the five tests, and one hidden by the behind-background flag. -/
theorem witness_SpriteColumnsPassFiveTests :
    let s := scene 0 (screenOn 0x83) [] [] [(1, solid 1)]
    let b : LineBuf := { row := Vector.replicate 160 cZ, prio := (Vector.replicate 160 0).set 9 2
                         done := Vector.replicate 160 false }
    (match spriteColumn s 0 ⟨16, 8, 1, 0x80⟩ b 0 with
      | .ok b' => decide (b'.row[0] = cL ∧ b'.done[0] = true)
      | .error _ => false) = true ∧
    (match spriteColumn s 0 ⟨16, 16, 1, 0x80⟩ b 1 with
      | .ok b' => decide (b'.row[9] = cZ ∧ b'.done[9] = false)
      | .error _ => false) = true := by decide +kernel

/-- All the premises together, and for each layer a column it is responsible for: the window's first, the background's last,
and one a sprite shows in. -/
theorem witness_RenderedLineIsTheDescribedLine :
    (CacheCoherent busy ∧ FlagsCoherent busy ∧ busy.reg.lcdc.getLsbD 7 = true ∧ 4 ≤ 456 ∧
      lyAfter 4 busy = (3 : Fin 144).val ∧ enters .hBlank 4 busy = true) ∧
    (busy.reg.lcdc.getLsbD 5 = true ∧ busy.reg.wy.toNat ≤ 3 ∧ busy.reg.wx.toNat ≤ (80 : Fin 160).val + 7) ∧
    (busy.reg.lcdc.getLsbD 0 = true ∧ (79 : Fin 160).val + 7 < busy.reg.wx.toNat) ∧
    busy.reg.lcdc.getLsbD 1 = true ∧ spriteShows busy 3 0 0 = true :=
  ⟨⟨busy_cacheCoherent, busy_flagsCoherent, by decide, by decide, by decide, by decide⟩, by decide, by decide, by decide,
    by decide +kernel⟩

/-- `busy` with another cache entry under the dirty flag and other scratch. -/
def busyTwin : State :=
  { busy with cache := busy.cache.set 1 (solid 3), prio := Vector.replicate 160 3, spriteDone := Vector.replicate 160 true }

theorem witness_CacheAndScratchAreUnobservable :
    SameVisible busy busyTwin ∧ busy ≠ busyTwin ∧ CacheCoherent busy ∧ FlagsCoherent busy ∧ CacheCoherent busyTwin ∧
      FlagsCoherent busyTwin ∧ MemoriesCanonical busy ∧ ∃ s', exec (.step 4 0) busy = .next s' := by
  refine ⟨⟨⟨rfl, rfl, rfl, rfl, rfl, rfl, rfl, rfl⟩, rfl, rfl, rfl, rfl, rfl, rfl⟩, ?_, busy_cacheCoherent,
    busy_flagsCoherent, ?_, busy_flagsCoherent, busy_canonical, _, exec_step_ok 4 0 busy (by decide)⟩
  · intro h
    have h1 : busy.prio[0] = busyTwin.prio[0] := by rw [h]
    exact absurd h1 (by simp [busy, busyTwin, base, State.resetWith])
  · intro t ht
    have h1 : t.val ≠ 1 := by
      intro h
      have h2 : t = (1 : Fin 384) := Fin.ext h
      subst h2
      exact absurd ht (by simp [busyTwin, busy])
    have hc : busyTwin.cache[t] = busy.cache[t] := by
      simp only [busyTwin, Fin.getElem_fin]
      exact Vector.getElem_set_ne (by omega) t.isLt (fun h => h1 h.symm)
    rw [hc]
    exact busy_cacheCoherent t ht

end Sys2Proof.Tests
end

section
/-! PROOFS. The port map (30_encoding.md R92, R107): which bytes are ports of no register, and what a transaction on one of
them does. -/

namespace Sys2Proof

/-- The rows of R107: the port belongs to no register. -/
def Port.isUnmapped : Port → Bool
  | .unmapped00To3F | .unmapped46 | .unmapped4C | .unmapped4D | .unmapped4E | .unmapped50To5F | .unmapped60To7F
  | .unmapped80ToFF => true
  | .lcdc | .stat | .scy | .scx | .ly | .lyc | .bgp | .obp0 | .obp1 | .wy | .wx | .vbk => false

/-- The twelve bytes R92 names are exactly the mapped ports. -/
theorem portOf_isUnmapped_iff (p : Byte) : (portOf p).isUnmapped = true ↔
    p ∉ [0x40, 0x41, 0x42, 0x43, 0x44, 0x45, 0x47, 0x48, 0x49, 0x4A, 0x4B, (0x4F : Byte)] := by
  revert p
  decide +kernel

namespace Machine

/-- R155, R156: a read of an unmapped port gives the sentinel, and a write is ignored. -/
theorem exec_port_of_isUnmapped {p : Byte} (h : (portOf p).isUnmapped = true) (d : Byte) (s : State) :
    exec (decode (.portR p)) s = .next (s.emit (.byte 0xFF)) ∧ exec (decode (.portW p d)) s = .next s := by
  simp only [decode, decodePortRead, decodePortWrite]
  cases hp : portOf p <;> rw [hp] at h
  case unmapped00To3F | unmapped46 | unmapped4C | unmapped4D | unmapped4E | unmapped50To5F | unmapped60To7F |
    unmapped80ToFF => exact ⟨rfl, rfl⟩
  all_goals cases h

/-- Settles O6: the decoder evaluates at each of the twelve ports, and every other port is unmapped. -/
theorem portMapSelectsByExactValue : Obligations.PortMapSelectsByExactValue := by
  refine ⟨?reads, fun d => ?writes, fun p d s hp => ?others⟩
  case reads => exact ⟨rfl, rfl, rfl, rfl, rfl, rfl, rfl, rfl, rfl, rfl, rfl, rfl⟩
  case writes => exact ⟨rfl, rfl, rfl, rfl, rfl, rfl, rfl, rfl, rfl, rfl, rfl, rfl⟩
  case others => exact exec_port_of_isUnmapped ((portOf_isUnmapped_iff p).mpr hp) d s

end Machine
end Sys2Proof
end

section
/-! PROOFS. A sprite's line test, row, tile and column, as arithmetic on the bytes of its entry (43_scanline_renderer.md R233
to R237). -/

namespace Sys2Proof.Machine

/-- R233: the lines a sprite of height `h` is on. -/
theorem onLine_iff (sp : Sprite) (h line : Nat) :
    sp.onLine h line = true ↔ (sp.y.toNat : Int) - 16 ≤ line ∧ (line : Int) < (sp.y.toNat : Int) - 16 + h := by
  rw [Sprite.onLine, Bool.and_eq_true, decide_eq_true_eq, decide_eq_true_eq, Sprite.top]

/-- R234: on a line at or below the sprite's top the row needs no integers. -/
theorem row_of_top_le (sp : Sprite) (h line : Nat) (htop : (sp.y.toNat : Int) - 16 ≤ line) :
    sp.row h line =
      if sp.flags.getLsbD 6 = true then h - 1 - (line + 16 - sp.y.toNat) else line + 16 - sp.y.toNat := by
  have hdist : ((line : Int) - sp.top).toNat = line + 16 - sp.y.toNat := by unfold Sprite.top; omega
  simp only [Sprite.row, Sprite.yFlip, hdist]

/-- R235, 8-pixel mode: the tile is the entry's own. -/
theorem tileOf_short (sp : Sprite) (r : Nat) : sp.tileOf 8 r = sp.tile.toNat := rfl

/-- Replacing bit 0 of a byte: the upper seven bits are the even part, and the new bit is added to it. -/
theorem toNat_replace_bit0 (t : Byte) (b : Nat) (hb : b < 2) :
    ((t &&& 0xFE) ||| BitVec.ofNat 8 b).toNat = t.toNat / 2 * 2 + b := by
  have ht : t.toNat < 256 := t.isLt
  have heven : t.toNat &&& 0xFE = 2 ^ 1 * (t.toNat / 2) := by
    rw [show 0xFE = 2 ^ 1 * (2 ^ 7 - 1) from rfl, Laws.and_high, Nat.and_two_pow_sub_one_eq_mod, Nat.pow_one,
      Nat.mod_eq_of_lt (by omega)]
  calc ((t &&& 0xFE) ||| BitVec.ofNat 8 b).toNat
      = (t.toNat &&& 0xFE) ||| b % 2 ^ 8 := by simp
    _ = 2 ^ 1 * (t.toNat / 2) ||| b := by rw [heven, Nat.mod_eq_of_lt (by omega)]
    _ = 2 ^ 1 * (t.toNat / 2) + b := (Nat.two_pow_add_eq_or_of_lt (by omega) _).symm
    _ = t.toNat / 2 * 2 + b := by omega

/-- R235, 16-pixel mode: bit 0 of the tile number is the half the row lies in. -/
theorem tileOf_tall (sp : Sprite) (r : Nat) (hr : r < 16) : sp.tileOf 16 r = sp.tile.toNat / 2 * 2 + r / 8 :=
  toNat_replace_bit0 sp.tile (r / 8) (by omega)

/-- R237: flag bit 5 reverses the columns. -/
theorem column_val (sp : Sprite) (c : Fin 8) :
    (sp.column c).val = if sp.flags.getLsbD 5 = true then 7 - c.val else c.val := by
  unfold Sprite.column Sprite.xFlip
  split_ifs
  · rw [Fin.val_rev]; omega
  · rfl

/-- Settles O57: the entry's bytes, the palette and the pixel are the model's definitions read out; the line test, row, tile
and column are the lemmas above. -/
theorem spriteFieldsSelectItsPixel : Obligations.SpriteFieldsSelectItsPixel := by
  refine ⟨fun oam k _ => ⟨rfl, rfl, rfl, rfl⟩, fun s sp h line => ⟨onLine_iff sp h line, fun hon => ?row,
    fun r => ⟨tileOf_short sp r, tileOf_tall sp r⟩, rfl, column_val sp, fun c => rfl⟩⟩
  case row =>
    obtain ⟨htop, _⟩ := (onLine_iff sp h line).mp hon
    exact row_of_top_le sp h line htop

end Sys2Proof.Machine
end

section
/-! PROOFS. The LCDC write (40_register_bank.md R132): what it stores and restarts, and the `Step` that follows a restart
(70_reset_and_hazards.md R338). -/

namespace Sys2Proof.Machine

/-- R132: bit 7 going from 0 to 1 restarts the line and the counter. -/
theorem exec_wrLcdc_restart {s : State} {d : Byte} (hoff : s.reg.lcdc.getLsbD 7 = false) (hon : d.getLsbD 7 = true) :
    exec (.wrLcdc d) s =
      .next ((s.setReg { s.reg with lcdc := d }).setPos 0 s.cfg.lcdEnableCycleOffset.val) := by
  simp only [exec, execWrLcdc, hoff, hon, Bool.not_false, Bool.and_true, if_true, State.setReg]

/-- R132: any other LCDC write only stores the byte. -/
theorem exec_wrLcdc_store {s : State} {d : Byte} (h : s.reg.lcdc.getLsbD 7 = true ∨ d.getLsbD 7 = false) :
    exec (.wrLcdc d) s = .next (s.setReg { s.reg with lcdc := d }) := by
  rcases h with hon | hoff
  · simp only [exec, execWrLcdc, hon, Bool.not_true, Bool.false_and, Bool.false_eq_true, if_false]
  · simp only [exec, execWrLcdc, hoff, Bool.and_false, Bool.false_eq_true, if_false]

/-- Whether or not it restarts, an LCDC write ends normally with the byte stored. -/
theorem exec_wrLcdc_stores (d : Byte) (s : State) : ∃ t, exec (.wrLcdc d) s = .next t ∧ t.reg.lcdc = d := by
  by_cases h : s.reg.lcdc.getLsbD 7 = true ∨ d.getLsbD 7 = false
  · exact ⟨_, exec_wrLcdc_store h, rfl⟩
  · obtain ⟨hoff, hon⟩ := not_or.mp h
    exact ⟨_, exec_wrLcdc_restart (Bool.eq_false_of_not_eq_true hoff) (Bool.eq_true_of_not_eq_false hon), rfl⟩

/-- A `Step` that stays on its line can request for the mode it enters only. -/
theorem ifAfter_same_line (n : Nat) (f : Byte) (s : State) (h : s.counter + n < 456) :
    ifAfter n f s = request ((enters .oamScan n s && oamIe s) || (enters .hBlank n s && hblIe s)) statRequest f := by
  obtain ⟨hadv, _, _⟩ := after_same_line n s h
  simp only [ifAfter, entersVBlank, hadv, Bool.false_and, request, Bool.false_eq_true, if_false]

/-- On a visible line, a `Step` that stays there raises bit 1 exactly by the entry action of the counter's mode, if the
mode changes and its enable is set (R176 to R179). -/
theorem ifAfter_same_line_bit1 (n : Nat) (f : Byte) (s : State) (hline : s.ly < 144) (h : s.counter + n < 456) :
    (ifAfter n f s).getLsbD 1 = true ↔ f.getLsbD 1 = true ∨
      (modeOf (s.counter + n) ≠ s.mode ∧
        ((modeOf (s.counter + n) = .oamScan ∧ oamIe s = true) ∨
          (modeOf (s.counter + n) = .hBlank ∧ hblIe s = true))) := by
  obtain ⟨_, hly, hcounter⟩ := after_same_line n s h
  have henters : ∀ m, enters m n s = true ↔ modeOf (s.counter + n) = m ∧ s.mode ≠ m := fun m => by
    simp only [enters, hly, hcounter, hline, decide_true, Bool.true_and, Bool.and_eq_true, decide_eq_true_eq]
  rw [ifAfter_same_line n f s h, request_stat]
  simp only [decide_true, Bool.and_true, Bool.or_eq_true, Bool.and_eq_true, henters]
  generalize modeOf (s.counter + n) = m
  constructor
  · rintro (hf | ⟨⟨rfl, hne⟩, hen⟩ | ⟨⟨rfl, hne⟩, hen⟩)
    · exact .inl hf
    · exact .inr ⟨hne.symm, .inl ⟨rfl, hen⟩⟩
    · exact .inr ⟨hne.symm, .inr ⟨rfl, hen⟩⟩
  · rintro (hf | ⟨hne, ⟨rfl, hen⟩ | ⟨rfl, hen⟩⟩)
    · exact .inl hf
    · exact .inr (.inl ⟨⟨rfl, hne.symm⟩, hen⟩)
    · exact .inr (.inr ⟨⟨rfl, hne.symm⟩, hen⟩)

/-- A `Step` that stays on a visible line takes the mode of the counter, ends no frame and raises bit 1 as
`ifAfter_same_line_bit1` says. -/
theorem exec_step_same_line (n : Nat) (f : Byte) (s : State) (hline : s.ly < 144) (h : s.counter + n < 456) :
    ∃ t f', exec (.step n f) s = .next t ∧ t.ly = s.ly ∧ t.counter = s.counter + n ∧
      t.mode = modeOf (s.counter + n) ∧ t.results = .stepped f' false :: s.results ∧
      (f'.getLsbD 1 = true ↔ f.getLsbD 1 = true ∨ (t.mode ≠ s.mode ∧
        ((t.mode = .oamScan ∧ oamIe s = true) ∨ (t.mode = .hBlank ∧ hblIe s = true)))) := by
  obtain ⟨hadv, hly, hcounter⟩ := after_same_line n s h
  have hmode : modeAfter n s = modeOf (s.counter + n) := by rw [modeAfter, hly, hcounter, if_pos hline]
  have hframe : entersVBlank n s = false := by simp only [entersVBlank, hadv, Bool.false_and]
  refine ⟨_, ifAfter n f s, exec_step_ok n f s (by omega), ?_⟩
  simp only [State.emit_ly, State.emit_counter, State.emit_mode, State.emit_results, stepped_ly, stepped_counter,
    stepped_mode, stepped_results, hly, hcounter, hmode, hframe, true_and]
  exact ifAfter_same_line_bit1 n f s hline h

/-- Settles O21: the two cases of the write are its two rules; after a restart the `Step` stays on line 0. -/
theorem lcdcWriteStoresAndRestarts : Obligations.LcdcWriteStoresAndRestarts := by
  refine fun s d => ⟨exec_wrLcdc_restart, exec_wrLcdc_store, fun n f hoff hon hn => ?_⟩
  obtain ⟨t, f', hstep⟩ := exec_step_same_line n f
    ((s.setReg { s.reg with lcdc := d }).setPos 0 s.cfg.lcdEnableCycleOffset.val) (by decide : 0 < 144)
    (Nat.lt_succ_of_le hn)
  exact ⟨_, t, f', exec_wrLcdc_restart hoff hon, rfl, hstep⟩

end Sys2Proof.Machine
end

section
/-! PROOFS. The bank select (40_register_bank.md R153, R154): its port, and that no render reads or writes it. -/

namespace Sys2Proof.Machine

/-- The refresh neither reads nor writes a register (R205). -/
theorem refresh_setReg (s : State) (g : Regs) : refresh (s.setReg g) = (refresh s).setReg g := by
  unfold refresh
  by_cases h : s.anyDirty = true
  · simp only [State.setReg_anyDirty, State.setReg_vram0, State.setReg_cache, State.setReg_dirty, h, if_true]
    generalize (List.finRange 384).foldl (refreshTile s.vram0) (s.cache, s.dirty) = tiles
    rfl
  · simp [h]

/-- Replace the bank select. -/
def State.setBank (s : State) (b : BitVec 1) : State := s.setReg { s.reg with vbk := b }

/-- The refresh leaves the bank select as it is. -/
theorem refresh_setBank (s : State) (b : BitVec 1) : refresh (s.setBank b) = (refresh s).setBank b := by
  rw [State.setBank, refresh_setReg, State.setBank, refresh_reg]

/-- No layer reads the bank select. -/
theorem lineDrawn_setBank (s : State) (b : BitVec 1) (line : Fin 144) : lineDrawn (s.setBank b) line = lineDrawn s line :=
  rfl

/-- A render neither reads nor writes the bank select. -/
theorem rendered_setBank (s : State) (b : BitVec 1) (line : Fin 144) :
    rendered line (s.setBank b) = (rendered line s).setBank b := by
  rw [rendered, rendered, refresh_setBank, lineDrawn_setBank, apply_ite (State.setBank · b)]
  rfl

/-- Settles O20: the port branches on the mode; the render is independent of the bank select. -/
theorem bankSelectWorksInExtendedModeOnly : Obligations.BankSelectWorksInExtendedModeOnly := by
  refine fun s d => ⟨fun hext => ⟨?readExt, ?writeExt⟩, fun hext => ⟨?read, ?write⟩, fun line b => ?render⟩
  case readExt => simp only [exec, execRdVbk, hext, if_true, answer]
  case writeExt =>
    have hbit : d.extractLsb' 0 1 = BitVec.ofBool (d.getLsbD 0) := by
      ext k hk
      simp [Nat.lt_one_iff.mp hk]
    simp only [exec, execWrVbk, hext, if_true, hbit, State.setReg]
  case read => simp only [exec, execRdVbk, hext, Bool.false_eq_true, if_false, answer, sentinel]
  case write => simp only [exec, execWrVbk, hext, Bool.false_eq_true, if_false, ignore]
  case render =>
    rw [render_ok line s]
    exact (render_ok line (s.setBank b)).trans (congrArg Except.ok (rendered_setBank s b line))

end Sys2Proof.Machine
end

section
/-! PROOFS. The other ports of the register bank (40_register_bank.md): STAT, the registers stored whole, LY, the palettes and
the unmapped ports. -/

namespace Sys2Proof.Machine

/-! ### STAT (R133, R134) -/

/-- R133: bit 2 of the STAT byte is the coincidence of line and LYC. -/
theorem statByte_bit2 (s : State) : (statByte s).getLsbD 2 = coincides s := by
  rw [statByte, BitVec.getLsbD_append, BitVec.getLsbD_append]
  simp

/-- R27: the coincidence flag as a bit. -/
theorem ofBool_coincides (s : State) : BitVec.ofBool (coincides s) = if s.ly = s.reg.lyc.toNat then 1 else 0 := by
  unfold coincides
  split_ifs with h <;> simp [h]

/-- Settles O18: flag and mode are encoded case by case; an LYC of 154 or more is no line. -/
theorem statReadIsComposed : Obligations.StatReadIsComposed := by
  refine fun s => ⟨?composed, fun hly hlyc => ⟨statByte s, rfl, ?flag⟩⟩
  case composed =>
    rw [← ofBool_coincides]
    show answer (s.cfg.statBit7 ++ s.reg.statEn ++ BitVec.ofBool (coincides s) ++ enc s.mode) s = _
    cases s.mode <;> rfl
  case flag =>
    rw [statByte_bit2, coincides, decide_eq_false_iff_not]
    omega

/-- R134: enable `k` is bit `k + 3` of the byte written. -/
theorem statEnables_bit (d : Byte) (k : Nat) (hk : k < 4) : (statEnables d).getLsbD k = d.getLsbD (3 + k) := by
  simp [statEnables, hk]

/-- Settles O22: the write stores `statEnables d`. -/
theorem statWriteStoresTheEnables : Obligations.StatWriteStoresTheEnables := fun _ d =>
  ⟨statEnables d, rfl, statEnables_bit d 3 (by decide), statEnables_bit d 2 (by decide), statEnables_bit d 1 (by decide),
    statEnables_bit d 0 (by decide)⟩

/-! ### Registers that are stored whole -/

/-- Settles O17: the nine reads are their definitions; each of the nine ports decodes to its register's write and read. -/
theorem storedRegistersReadBack : Obligations.StoredRegistersReadBack := by
  refine fun s d => ⟨rfl, rfl, rfl, rfl, rfl, rfl, rfl, rfl, rfl, fun p hp => ?_⟩
  simp only [List.mem_cons, List.not_mem_nil, or_false] at hp
  rcases hp with rfl | rfl | rfl | rfl | rfl | rfl | rfl | rfl | rfl
  case inl =>
    obtain ⟨t, hw, hd⟩ := exec_wrLcdc_stores d s
    exact ⟨t, hw, congrArg (fun b => Host.Outcome.next (t.emit (.byte b))) hd⟩
  all_goals exact ⟨_, rfl, rfl⟩

/-- Settles O23: each write is its definition; the STAT byte read next has the new coincidence. -/
theorem plainRegisterWritesStore : Obligations.PlainRegisterWritesStore := fun _ _ =>
  ⟨rfl, rfl, rfl, rfl, rfl, _, _, rfl, rfl, statByte_bit2 _⟩

/-! ### LY (R139, R140) -/

/-- R23: the line is the same after every operation but a `Step` and an LCDC write. -/
theorem exec_ly (i : Instr) {s t : State} (h : exec i s = .next t) :
    t.ly = s.ly ∨ i.isStep = true ∨ ∃ d, i = .wrLcdc d := by
  cases i
  case step | stepRefused => exact .inr (.inl rfl)
  case wrLcdc d => exact .inr (.inr ⟨d, rfl⟩)
  case rdVbk | wrVbk =>
    simp only [exec, execRdVbk, execWrVbk] at h
    split at h <;> (obtain rfl := Host.Outcome.next.inj h; exact .inl rfl)
  case vramWr a d =>
    rw [← Host.Outcome.next.inj h, vramWrite_eq]
    exact .inl rfl
  case oamWr00To7F o d | oamWr80To9F o d =>
    rw [← Host.Outcome.next.inj h, oamWrite_eq]
    exact .inl rfl
  all_goals
    obtain rfl := Host.Outcome.next.inj h
    exact .inl rfl

/-- Settles O19: the byte read is the line modulo 256. -/
theorem lyReadsAsTheLineAndIgnoresWrites : Obligations.LyReadsAsTheLineAndIgnoresWrites := by
  refine fun s w => ⟨rfl, fun hly => ⟨_, rfl, ?_⟩, fun i t h hne => (exec_ly i h).resolve_left hne⟩
  rw [BitVec.toNat_ofNat]
  omega

/-! ### Palettes (R144, R146, R148) -/

/-- R99: slot `k` of a palette byte, by division. -/
theorem paletteSlot_toNat (d : Byte) (k : Fin 4) : (paletteSlot d k).toNat = d.toNat / 4 ^ k.val % 4 := by
  rw [paletteSlot, BitVec.extractLsb'_toNat, Nat.shiftRight_eq_div_pow, Nat.pow_mul]

/-- R260: slot `k` of a compiled palette is the base colour of its two bits. -/
theorem compile_getElem (base : Palette) (d : Byte) (k : Fin 4) : (compile base d)[k] = base[d.toNat / 4 ^ k.val % 4] := by
  simp only [compile, Fin.getElem_fin, Vector.getElem_ofFn, paletteColour, paletteSlot_toNat]

/-- Settles O24: the palette written is the compiled one. -/
theorem paletteWritesRecompile : Obligations.PaletteWritesRecompile := fun s d =>
  ⟨compile s.cfg.baseColours d, compile_getElem s.cfg.baseColours d, rfl, rfl, rfl⟩

/-! ### Unmapped ports (R155, R156) -/

/-- The ports of the eight unmapped ranges of R107. -/
theorem portOf_isUnmapped_of_range {p : Byte}
    (h : p.toNat ≤ 0x3F ∨ p = 0x46 ∨ (0x4C ≤ p.toNat ∧ p.toNat ≤ 0x4E) ∨ 0x50 ≤ p.toNat) :
    (portOf p).isUnmapped = true := by
  refine (portOf_isUnmapped_iff p).mpr fun hp => ?_
  simp only [List.mem_cons, List.not_mem_nil, or_false] at hp
  rcases hp with rfl | rfl | rfl | rfl | rfl | rfl | rfl | rfl | rfl | rfl | rfl | rfl <;> exact absurd h (by decide)

/-- Settles O25: each instruction is its definition, and a port in the ranges is unmapped. -/
theorem unmappedPortsReadOnesAndIgnoreWrites : Obligations.UnmappedPortsReadOnesAndIgnoreWrites := fun s _ d =>
  ⟨⟨rfl, rfl, rfl, rfl, rfl, rfl, rfl, rfl⟩, ⟨rfl, rfl, rfl, rfl, rfl, rfl, rfl, rfl⟩,
    fun h => exec_port_of_isUnmapped (portOf_isUnmapped_of_range h) d s⟩

end Sys2Proof.Machine
end

section
/-! PROOFS. The mode state machine (41_mode_state_machine.md): the position and mode a `Step` ends with, V-blank and H-blank
entry, and that LCDC does not gate it. Each proof reads the one description of a `Step`, `exec_step_ok`, case by case. -/

namespace Sys2Proof.Machine

/-! ### The bound (R170) -/

/-- R170: within the bound the decoder selects STEP. -/
theorem decode_step_of_le {n : Nat} (f : Byte) (hn : n ≤ 456) : decode (.step n f) = .step n f := if_pos hn

/-- R170: over the bound the decoder selects STEP_REFUSED. -/
theorem decode_step_of_gt {n : Nat} (f : Byte) (hn : 456 < n) : decode (.step n f) = .stepRefused n f :=
  if_neg (Nat.not_le.mpr hn)

/-- Settles O34: the decoder selects by the bound; STEP_REFUSED is refused and STEP ends normally. -/
theorem stepTooLongIsRefused : Obligations.StepTooLongIsRefused := by
  refine fun s n f => ⟨fun hlong => ⟨rfl, ?refused⟩, fun hn => ⟨_, exec_step_ok n f s hn, ?normal⟩⟩
  case refused =>
    rw [decode_step_of_gt f hlong]
    rfl
  case normal =>
    rw [decode_step_of_le f hn]
    exact exec_step_ok n f s hn

/-! ### Position and mode (R172, R175) -/

/-- Settles O37: the position a `Step` ends with is `lyAfter` and `counterAfter`, by whether the line advances. -/
theorem stepMovesThePosition : Obligations.StepMovesThePosition := by
  refine fun s n f hn => ⟨_, exec_step_ok n f s hn, fun h => ?advance, fun h => ?sameLine⟩
  case advance =>
    obtain ⟨_, hly, hcounter⟩ := after_advance n s h
    exact ⟨(stepped_counter n s).trans hcounter, (stepped_ly n s).trans hly⟩
  case sameLine =>
    obtain ⟨_, hly, hcounter⟩ := after_same_line n s h
    exact ⟨(stepped_counter n s).trans hcounter, (stepped_ly n s).trans hly⟩

/-- R175: the first 81 counter values. -/
theorem modeOf_of_le_80 {c : Nat} (h : c ≤ 80) : modeOf c = .oamScan := if_pos h

/-- R175: the next 172. -/
theorem modeOf_of_81_to_252 {c : Nat} (hlo : 81 ≤ c) (hhi : c ≤ 252) : modeOf c = .vramRead := by
  rw [modeOf, if_neg (Nat.not_le.mpr hlo), if_pos hhi]

/-- R175: the rest of the line. -/
theorem modeOf_of_253_le {c : Nat} (h : 253 ≤ c) : modeOf c = .hBlank := by
  rw [modeOf, if_neg (by omega), if_neg (Nat.not_le.mpr h)]

/-- R176: on a visible line the mode is the counter's. -/
theorem modeAfter_of_visible {n : Nat} {s : State} (h : lyAfter n s < 144) : modeAfter n s = modeOf (counterAfter n s) :=
  if_pos h

/-- Settles O38: `modeAfter_of_visible` with the three ranges of `modeOf`. -/
theorem stepTakesTheModeOfTheCounter : Obligations.StepTakesTheModeOfTheCounter := by
  refine fun s n f hn => ⟨_, exec_step_ok n f s hn, ?_⟩
  simp only [State.emit_ly, State.emit_counter, State.emit_mode, stepped_ly, stepped_counter, stepped_mode]
  intro hvisible
  rw [modeAfter_of_visible hvisible]
  exact ⟨modeOf_of_le_80, modeOf_of_81_to_252, modeOf_of_253_le⟩

/-! ### V-blank (R173, R180) -/

/-- R173: when a `Step` enters V-blank, by the state it starts from. -/
theorem entersVBlank_iff (n : Nat) (s : State) : entersVBlank n s = true ↔
    456 ≤ s.counter + n ∧ 144 ≤ (s.ly + 1) % 154 ∧ s.mode ≠ .vBlank := by
  simp only [entersVBlank, Bool.and_eq_true, decide_eq_true_eq, and_assoc]
  by_cases h : 456 ≤ s.counter + n
  · obtain ⟨hadv, hly, _⟩ := after_advance n s h
    simp only [hadv, hly, h, true_and]
  · obtain ⟨hadv, _, _⟩ := after_same_line n s (Nat.lt_of_not_le h)
    simp only [hadv, h, Bool.false_eq_true, false_and]

/-- A `Step` that ends on a visible line does not enter V-blank. -/
theorem entersVBlank_of_visible {n : Nat} {s : State} (h : lyAfter n s < 144) : entersVBlank n s = false := by
  rw [entersVBlank, decide_eq_false (Nat.not_le.mpr h), Bool.and_false, Bool.false_and]

/-- A `Step` that ends on lines 144 to 153 enters no mode of a visible line. -/
theorem enters_of_not_visible {n : Nat} {s : State} (m : Mode) (h : 144 ≤ lyAfter n s) : enters m n s = false := by
  rw [enters, decide_eq_false (Nat.not_lt.mpr h), Bool.false_and, Bool.false_and]

/-- R173, R176: on lines 144 to 153 the mode changes by V-blank entry only. -/
theorem modeAfter_of_not_visible {n : Nat} {s : State} (h : 144 ≤ lyAfter n s) :
    modeAfter n s = if entersVBlank n s then .vBlank else s.mode := by
  rw [modeAfter, if_neg (Nat.not_lt.mpr h), entersVBlank, decide_eq_true h, Bool.and_true]
  cases advances n s
  · rfl
  · by_cases hm : s.mode = .vBlank <;> simp [hm]

/-- A `Step` that ends on lines 144 to 153 renders nothing. -/
theorem stepped_of_not_visible {n : Nat} {s : State} (h : 144 ≤ lyAfter n s) : stepped n s = moved n s :=
  stepped_of_not_enters n s (enters_of_not_visible .hBlank h)

/-- A request is an OR with its bit or with 0. -/
theorem request_eq_or (e : Bool) (bit f : Byte) : request e bit f = f ||| if e = true then bit else 0 := by
  cases e
  · exact BitVec.or_zero.symm
  · rfl

/-- Two requests for one bit are one request. -/
theorem request_request (e e' : Bool) (bit f : Byte) : request e bit (request e' bit f) = request (e' || e) bit f := by
  cases e' <;> cases e
  case true.true => exact (BitVec.or_assoc f bit bit).trans (congrArg (f ||| ·) BitVec.or_self)
  all_goals rfl

/-- R173, R174: the IF byte of a `Step` that enters V-blank. -/
theorem ifAfter_of_entersVBlank {n : Nat} {s : State} (f : Byte) (h : entersVBlank n s = true) :
    ifAfter n f s = f ||| 0x01 |||
      if vblIe s = true ∨ (lyAfter n s = s.reg.lyc.toNat ∧ lycIe s = true) then 0x02 else 0x00 := by
  have hent := h
  simp only [entersVBlank, Bool.and_eq_true, decide_eq_true_eq] at h
  obtain ⟨⟨hadv, hly⟩, _⟩ := h
  have hvblank : request true vblankRequest f = f ||| 0x01 := rfl
  rw [ifAfter, enters_of_not_visible .oamScan hly, enters_of_not_visible .hBlank hly, hent, hadv, hvblank,
    request_request, request_request, request_eq_or]
  simp only [Bool.false_and, Bool.or_false, Bool.true_and, Bool.or_eq_true, Bool.and_eq_true, decide_eq_true_eq]
  rfl

/-- Settles O39: `entersVBlank` is the condition; with it the `Step` only moves and requests as in `ifAfter_of_entersVBlank`,
without it the mode and picture of lines 144 to 153 are kept. -/
theorem vBlankEntrySignalsTheFrame : Obligations.VBlankEntrySignalsTheFrame := by
  refine fun s n f hn => ⟨fun hadv hline hmode => ⟨?entry, fun hheld hly => ?line143⟩, fun hno => ?noEntry⟩
  case entry =>
    have hent : entersVBlank n s = true := (entersVBlank_iff n s).mpr ⟨hadv, hline, hmode⟩
    obtain ⟨_, hly, hcounter⟩ := after_advance n s hadv
    have hbelow : 144 ≤ lyAfter n s := hly ▸ hline
    rw [exec_step_ok n f s hn, stepped_of_not_visible hbelow, moved, modeAfter_of_not_visible hbelow,
      ifAfter_of_entersVBlank f hent, hent, hly, hcounter]
    rfl
  case line143 =>
    have hvisible : s.ly < 144 := Nat.lt_of_not_le fun h => hmode (hheld h)
    omega
  case noEntry =>
    have hent : entersVBlank n s = false := Bool.eq_false_of_not_eq_true fun h => hno ((entersVBlank_iff n s).mp h)
    refine ⟨_, ifAfter n f s, exec_step_ok n f s hn, ?_⟩
    simp only [State.emit_results, State.emit_ly, State.emit_mode, State.emit_fb, stepped_results, stepped_ly,
      stepped_mode, hent, true_and]
    intro hbelow
    rw [modeAfter_of_not_visible hbelow, hent, stepped_of_not_visible hbelow]
    exact ⟨rfl, rfl⟩

/-! ### H-blank (R179) -/

/-- R176: when a `Step` enters H-blank. -/
theorem enters_hBlank {n : Nat} {s : State} (hvisible : lyAfter n s < 144) (hcounter : 253 ≤ counterAfter n s)
    (hmode : s.mode ≠ .hBlank) : enters .hBlank n s = true := by
  simp only [enters, hvisible, modeOf_of_253_le hcounter, hmode, decide_true, ne_eq, not_false_iff, Bool.and_self]

/-- R179: H-blank entry with its enable set requests the STAT interrupt. -/
theorem ifAfter_bit1_of_enters_hBlank {n : Nat} {s : State} (f : Byte) (hent : enters .hBlank n s = true)
    (hen : hblIe s = true) : (ifAfter n f s).getLsbD 1 = true := by
  rw [ifAfter, request_stat, hent, hen]
  simp only [Bool.and_self, Bool.or_true, decide_true]

/-- Settles O41: the `Step` enters H-blank, so it renders the line from the state it has moved to. -/
theorem hBlankEntryRendersTheLine : Obligations.HBlankEntryRendersTheLine := by
  intro s n f line hn hly hcounter hmode
  have hvisible : lyAfter n s < 144 := hly ▸ line.isLt
  have hent : enters .hBlank n s = true := enters_hBlank hvisible hcounter hmode
  have hmoved : moved n s = { s with ly := line.val, counter := counterAfter n s, mode := .hBlank } := by
    rw [moved, modeAfter_of_visible hvisible, modeOf_of_253_le hcounter, hly]
    rfl
  refine ⟨rendered line (moved n s), ifAfter n f s, hmoved ▸ render_ok line (moved n s), ?_,
    ifAfter_bit1_of_enters_hBlank f hent⟩
  rw [exec_step_ok n f s hn, stepped_of_enters n s line hly hent, entersVBlank_of_visible hvisible, State.emit,
    rendered_results]
  rfl

/-! ### LCDC (R186) -/

/-- With the display off a `Step` leaves the tile cache, the frame buffer and the scratch as they are. -/
theorem samePicture_stepped_of_display_off (n : Nat) {s : State} (h : lcdEn s = false) : SamePicture s (stepped n s) := by
  rw [stepped_display_off n s h]
  exact ⟨rfl, rfl, rfl, rfl, rfl, rfl⟩

/-- Settles O43: no function of the position, the mode or the IF byte reads LCDC; with the display off the `Step` only
moves. -/
theorem lcdcDoesNotGateStep : Obligations.LcdcDoesNotGateStep := by
  refine fun s n f d hn => ⟨_, _, exec_step_ok n f s hn, exec_step_ok n f _ hn, ?_⟩
  simp only [State.emit_ly, State.emit_counter, State.emit_mode, State.emit_results, stepped_ly, stepped_counter,
    stepped_mode, stepped_results]
  exact ⟨rfl, rfl, rfl, rfl,
    fun hoff => samePicture_stepped_of_display_off n (s := { s with reg := { s.reg with lcdc := d } }) hoff⟩

end Sys2Proof.Machine
end

section
/-! PROOFS. The tile cache (42_tile_cache.md): the pixel decoder bit by bit (R201), map bytes as tile numbers (R202), the
refresh at the start of a render (R205) and the guarded lookup (R206). -/

namespace Sys2Proof.Machine

/-- R201: bit 0 of a pixel is the low plane's bit for its column. -/
theorem decodePixel_bit0 (lo hi : Byte) (c : Fin 8) : (decodePixel lo hi c).getLsbD 0 = lo.getLsbD (7 - c.val) := by
  rw [decodePixel, BitVec.getLsbD_append, BitVec.getLsbD_extractLsb']
  simp

/-- R201: bit 1 of a pixel is the high plane's bit for its column. -/
theorem decodePixel_bit1 (lo hi : Byte) (c : Fin 8) : (decodePixel lo hi c).getLsbD 1 = hi.getLsbD (7 - c.val) := by
  rw [decodePixel, BitVec.getLsbD_append, BitVec.getLsbD_extractLsb']
  simp

/-- Settles O48: a decoded tile's pixel is `decodePixel` of its row's two bytes, whose bits are the lemmas above. -/
theorem tileRowsDecodeFromTwoPlanes : Obligations.TileRowsDecodeFromTwoPlanes := by
  refine ⟨fun bank t r k => ?planes, ?exampleRow⟩
  case planes =>
    rw [decodeTile_pixel]
    exact ⟨decodePixel_bit0 _ _ k, decodePixel_bit1 _ _ k⟩
  case exampleRow => decide

/-- R205: with the aggregate flag clear the refresh changes nothing. -/
theorem refresh_of_clean {s : State} (h : s.anyDirty = false) : refresh s = s := by
  rw [refresh, h, if_neg Bool.false_ne_true]

/-- R220, R222: with the display on a render stores the line composed from the refreshed state. -/
theorem rendered_on (line : Fin 144) {s : State} (h : lcdEn s = true) : rendered line s =
    (refresh s).setScreen (s.fb.set line (lineDrawn (refresh s) line).row) (lineDrawn (refresh s) line).prio
      (lineDrawn (refresh s) line).done := if_pos h

/-- Settles O50: the refresh tile by tile, by the lemmas on its fields; the render by whether the display is on. -/
theorem refreshDecodesTheDirtyTiles : Obligations.RefreshDecodesTheDirtyTiles := by
  refine fun s => ⟨fun hdirty => ⟨fun t => ⟨?tile, ?flag⟩, refresh_anyDirty s, ?frame⟩, refresh_of_clean,
    fun line => ⟨fun hon => ⟨lineDrawn (refresh s) line, composeLine_ok (refresh s) line, ?on⟩, fun hoff => ?off⟩⟩
  case tile => simp only [refresh_cache, hdirty, true_and]
  case flag => rw [refresh_dirty, if_pos hdirty]
  case frame => exact refresh_anyDirty s ▸ refresh_eq s
  case on => exact (render_ok line s).trans (congrArg Except.ok (rendered_on line hon))
  case off => exact (render_ok line s).trans (congrArg Except.ok (rendered_off line s hoff))

/-- R202: the unsigned reading of a map byte. -/
theorem bgTile_unsigned (idx : Byte) : bgTile idx true = idx.toNat := if_pos rfl

/-- Settles O49: the signed reading splits at 128, and a byte is below 256. -/
theorem mapBytesSelectTheirTiles : Obligations.MapBytesSelectTheirTiles := by
  intro idx
  have hbyte : idx.toNat < 256 := idx.isLt
  rw [bgTile_unsigned, bgTile_signed]
  split_ifs <;> omega

/-- Settles O51: the two branches of the lookup. -/
theorem tileLookupHasAGuard : Obligations.TileLookupHasAGuard :=
  fun s t r k => ⟨tilePx_of_ge s t r k, tilePx_of_lt s t r k⟩

end Sys2Proof.Machine
end

section
/-! PROOFS. The layers of the scanline renderer (43_scanline_renderer.md), seen at one column of the line: with the display
off no layer runs (R221); the background and the window are tile layers (R225 to R230); a sprite column passes the five tests
of R238. -/

namespace Sys2Proof.Machine

/-- Settles O53: `rendered_off` for the state a render ends in. -/
theorem displayOffRendersNothing : Obligations.DisplayOffRendersNothing := fun line s hoff =>
  (render_ok line s).trans (congrArg Except.ok (rendered_off line s hoff))

/-! ### Tile layers (R225 to R230) -/

section
variable (pal : Palette) (covers : Fin 160 → Bool) (index : Fin 160 → ColourIndex) (b : LineBuf)

/-- A tile layer marks no column. -/
theorem drawTile_line_done : ((List.finRange 160).foldl (drawTile pal covers index) b).done = b.done :=
  (drawTile_fold pal covers index (List.finRange 160) b 0).2.2

/-- A column a tile layer covers holds the layer's pixel and its raw index. -/
theorem drawTile_line_of_covers {x : Fin 160} (h : covers x = true) :
    ((List.finRange 160).foldl (drawTile pal covers index) b).row[x] = paletteColour pal (index x) ∧
      ((List.finRange 160).foldl (drawTile pal covers index) b).prio[x] = (index x).toNat := by
  obtain ⟨hrow, hprio, _⟩ := drawTile_fold pal covers index (List.finRange 160) b x
  have hdrawn : x ∈ List.finRange 160 ∧ covers x = true := ⟨List.mem_finRange x, h⟩
  rw [if_pos hdrawn] at hrow hprio
  exact ⟨hrow, hprio⟩

/-- A column a tile layer does not cover is as before. -/
theorem drawTile_line_of_not_covers {x : Fin 160} (h : ¬ covers x = true) :
    ((List.finRange 160).foldl (drawTile pal covers index) b).row[x] = b.row[x] ∧
      ((List.finRange 160).foldl (drawTile pal covers index) b).prio[x] = b.prio[x] := by
  obtain ⟨hrow, hprio, _⟩ := drawTile_fold pal covers index (List.finRange 160) b x
  have hkept : ¬ (x ∈ List.finRange 160 ∧ covers x = true) := fun hdrawn => h hdrawn.2
  rw [if_neg hkept] at hrow hprio
  exact ⟨hrow, hprio⟩

end

/-- R228: the columns the window covers. -/
theorem windowCovers_iff (s : State) (line : Nat) (x : Fin 160) :
    windowCovers s line x = true ↔ s.reg.wy.toNat ≤ line ∧ s.reg.wx.toNat ≤ x.val + 7 := by
  rw [windowCovers, Bool.and_eq_true, decide_eq_true_eq, decide_eq_true_eq]

/-- Settles O54: the background is a tile layer that covers every column, with the index of its map's pixel. -/
theorem backgroundLayerWritesEveryColumn : Obligations.BackgroundLayerWritesEveryColumn := fun s line b =>
  ⟨bgDrawn s line b, bgLine_ok s line b, drawTile_line_done _ _ _ b, fun _ =>
    ⟨_, mapPixel_ok s _ _ _, drawTile_line_of_covers _ _ _ b rfl⟩⟩

/-- Settles O56: the window is a tile layer that covers the columns of `windowCovers_iff`, with the index of its map's
pixel. -/
theorem windowLayerWritesItsRegion : Obligations.WindowLayerWritesItsRegion := by
  refine fun s line b => ⟨winDrawn s line b, winLine_ok s line b, drawTile_line_done _ _ _ b, fun x =>
    ⟨fun hwy hwx => ?covered, fun hout => ?outside⟩⟩
  case covered =>
    have hcovers : windowCovers s line x = true := (windowCovers_iff s line x).mpr ⟨hwy, hwx⟩
    exact ⟨_, mapPixel_ok s _ _ _, drawTile_line_of_covers _ _ _ b hcovers⟩
  case outside =>
    have hcovers : ¬ windowCovers s line x = true := by rw [windowCovers_iff]; omega
    exact drawTile_line_of_not_covers _ _ _ b hcovers

/-! ### Sprite columns (R238, R240) -/

/-- R238: the tests on the screen column, the priority, the behind-background flag and the index. -/
theorem showsAt_iff (s : State) (line : Nat) (sp : Sprite) (prio : Nat) (c : Fin 8) (x : Fin 160) :
    showsAt s line sp prio c x = true ↔ (x.val : Int) = (sp.x.toNat : Int) - 8 + c.val ∧ prio < 4 ∧
      ¬ (sp.flags.getLsbD 7 = true ∧ prio ≠ 0) ∧ spriteCached s line sp c ≠ 0 := by
  simp only [showsAt, Bool.and_eq_true, Bool.not_eq_true', ← Bool.not_eq_true, decide_eq_true_eq, and_assoc]
  exact and_congr_left' eq_comm

section
variable {s : State} {line : Nat} {sp : Sprite} {b : LineBuf} {c : Fin 8} {x : Fin 160}

/-- A sprite column that shows at a free screen column draws and marks it. -/
theorem drawSpriteColumn_of_shows (h : showsAt s line sp b.prio[x] c x = true) (hfree : b.done[x] = false) :
    (drawSpriteColumn s line sp b c).row[x] = paletteColour (spritePalette s sp) (spriteCached s line sp c) ∧
      (drawSpriteColumn s line sp b c).done[x] = true := by
  obtain ⟨hrow, hdone, _⟩ := drawSpriteColumn_at s line sp b c x
  rw [if_pos ⟨h, hfree⟩] at hrow
  rw [h, Bool.or_true] at hdone
  exact ⟨hrow, hdone⟩

/-- A sprite column leaves alone a screen column it does not show at and one that is marked. -/
theorem drawSpriteColumn_of_skipped (h : ¬ (showsAt s line sp b.prio[x] c x = true ∧ b.done[x] = false)) :
    (drawSpriteColumn s line sp b c).row[x] = b.row[x] ∧ (drawSpriteColumn s line sp b c).done[x] = b.done[x] := by
  obtain ⟨hrow, hdone, _⟩ := drawSpriteColumn_at s line sp b c x
  rw [if_neg h] at hrow
  refine ⟨hrow, hdone.trans (Bool.or_eq_left_iff_imp.mpr fun hshows => ?_)⟩
  exact Bool.eq_true_of_not_eq_false fun hfree => h ⟨hshows, hfree⟩

end

/-- Settles O58: four of the five tests are `showsAt_iff`, the fifth is the mark. -/
theorem spriteColumnsPassFiveTests : Obligations.SpriteColumnsPassFiveTests := by
  intro s line sp b c
  obtain ⟨_, _, hprio⟩ := drawSpriteColumn_at s line sp b c 0
  refine ⟨drawSpriteColumn s line sp b c, spriteCached s line sp c, spriteColumn_ok s line sp b c,
    spritePixel_ok s line sp c, hprio, fun x => ⟨?drawn, fun h => drawSpriteColumn_of_skipped ?skipped⟩⟩
  case drawn =>
    rintro ⟨hcol, hlow, hfront, hopaque, hfree⟩
    exact drawSpriteColumn_of_shows ((showsAt_iff ..).mpr ⟨hcol, hlow, hfront, hopaque⟩) hfree
  case skipped =>
    rintro ⟨hshows, hfree⟩
    obtain ⟨hcol, hlow, hfront, hopaque⟩ := (showsAt_iff ..).mp hshows
    exact h ⟨hcol, hlow, hfront, hopaque, hfree⟩

end Sys2Proof.Machine
end

section
/-! PROOFS. The palette compiler (44_palette_compiler.md): a compiled palette is known by its four slots, each given by
`compile_getElem`. -/

namespace Sys2Proof.Machine

/-- R260: a palette whose slots are the base colours of the bits of `d` is the compiled one. -/
theorem compile_eq_of_slots {base p : Palette} {d : Byte} (h : ∀ k : Fin 4, p[k] = base[d.toNat / 4 ^ k.val % 4]) :
    compile base d = p :=
  Vector.ext fun k hk => (compile_getElem base d ⟨k, hk⟩).trans (h ⟨k, hk⟩).symm

/-- Settles O52: each corner case is checked slot by slot, where the index is a numeral. -/
theorem paletteSlotsAreBaseColours : Obligations.PaletteSlotsAreBaseColours := by
  refine fun base => ⟨compile_getElem base, ?identity, fun k => ?zero, ?reversed, ?mixed⟩
  case zero => simpa using compile_getElem base 0x00 k
  case identity | reversed | mixed =>
    refine compile_eq_of_slots fun k => ?_
    match k with
    | 0 | 1 | 2 | 3 => rfl

end Sys2Proof.Machine
end

section
/-! PROOFS. The VRAM, OAM and frame-buffer ports (45_memory_ports.md): what an access inside and outside the window and the
sprite table does, and where each byte of a pixel stands in a frame read. -/

namespace Sys2Proof.Machine

/-! ### The VRAM window (R270 to R273) -/

/-- R91: an address lies in the VRAM window by two comparisons. -/
theorem inVramWindow_iff (a : Addr) : inVramWindow a = true ↔ 0x8000 ≤ a.toNat ∧ a.toNat ≤ 0x9FFF := by
  rw [inVramWindow, Bool.and_eq_true, decide_eq_true_eq, decide_eq_true_eq]

/-- R91: the decoder's window is the same range. -/
theorem vramRegionOf_eq_window_iff (a : Addr) : vramRegionOf a = .window ↔ 0x8000 ≤ a.toNat ∧ a.toNat ≤ 0x9FFF := by
  unfold vramRegionOf
  split_ifs <;> simp <;> omega

/-- R270: a window read gives the byte of the selected bank. -/
theorem vramRead_in {a : Addr} (s : State) (h : inVramWindow a = true) :
    vramRead a s = vramByte s (vbank s) (vramOffset a) := if_pos h

/-- R272, R273: a VRAM transaction outside the window reads the sentinel or is ignored. -/
theorem exec_vram_outside {a : Addr} (h : a.toNat < 0x8000 ∨ 0x9FFF < a.toNat) (d : Byte) (s : State) :
    exec (decode (.vramR a)) s = .next (s.emit (.byte 0xFF)) ∧ exec (decode (.vramW a d)) s = .next s := by
  have hregion : vramRegionOf a ≠ .window := fun hw => by
    obtain ⟨hlo, hhi⟩ := (vramRegionOf_eq_window_iff a).mp hw
    omega
  simp only [decode, decodeVramRead, decodeVramWrite]
  cases hr : vramRegionOf a
  case window => exact absurd hr hregion
  case out0000To7FFF | outA000ToBFFF | outC000ToFFFF => exact ⟨rfl, rfl⟩

/-- An invalidation leaves every stored byte as it is. -/
theorem invalidate_vramByte (a : Addr) (s : State) (b : BitVec 1) (k : Nat) :
    vramByte (invalidate a s) b k = vramByte s b k := by
  rw [invalidate_eq]
  rfl

/-- R271: the stored bytes after a window write. -/
theorem vramWrite_vramByte {a : Addr} {s : State} (d : Byte) (h : inVramWindow a = true) (hmem : MemoriesCanonical s)
    (b : BitVec 1) (k : Nat) :
    vramByte (vramWrite a d s) b k = if b = vbank s ∧ k = vramOffset a then d else vramByte s b k := by
  obtain ⟨h0, h1, _⟩ := hmem
  rw [vramWrite_in a d s h, invalidate_vramByte]
  exact storeVram_read s b (vbank s) (vramOffset a) k d h0 h1

/-- R204: the dirty flags after a window write, whatever the byte. -/
theorem vramWrite_dirty {a : Addr} (d : Byte) (s : State) (h : inVramWindow a = true) (t : Fin 384) :
    (vramWrite a d s).dirty[t] = true ↔
      s.dirty[t] = true ∨ (vbank s = 0 ∧ vramOffset a ≤ 0x17FF ∧ t.val = vramOffset a / 16) := by
  rw [vramWrite_in a d s h, invalidate_dirty, storeVram_dirty, storeVram_vbank]

/-- R204: the aggregate flag after a window write. -/
theorem vramWrite_anyDirty {a : Addr} (d : Byte) (s : State) (h : inVramWindow a = true) :
    (vramWrite a d s).anyDirty = true ↔ s.anyDirty = true ∨ (vbank s = 0 ∧ vramOffset a ≤ 0x17FF) := by
  rw [vramWrite_in a d s h, invalidate_anyDirty, storeVram_anyDirty, storeVram_vbank]

/-- Settles O28: bytes and flags by the lemmas above; that nothing else changes is `vramWrite_eq`. -/
theorem vramWriteStoresAndMarksItsTile : Obligations.VramWriteStoresAndMarksItsTile := by
  refine fun s a d hmem => ⟨fun hlo hhi => ?inside, fun hout => (exec_vram_outside hout d s).2⟩
  case inside =>
    have hin : inVramWindow a = true := (inVramWindow_iff a).mpr ⟨hlo, hhi⟩
    exact ⟨vramWrite a d s, rfl, vramWrite_vramByte d hin hmem, vramWrite_dirty d s hin, vramWrite_anyDirty d s hin,
      vramWrite_eq a d s⟩

/-- Settles O27: an address in the window or outside it. -/
theorem vramReadReturnsTheStoredByte : Obligations.VramReadReturnsTheStoredByte := by
  refine fun s a => ⟨fun hlo hhi => ?inside, fun hout => (exec_vram_outside hout 0 s).1⟩
  case inside =>
    have hin : inVramWindow a = true := (inVramWindow_iff a).mpr ⟨hlo, hhi⟩
    exact congrArg (fun b => Host.Outcome.next (s.emit (.byte b))) (vramRead_in s hin)

/-! ### The sprite table (R274 to R277) -/

/-- R274: a read inside the table gives the stored byte. -/
theorem oamRead_in {o : Byte} (s : State) (h : o.toNat ≤ 159) : oamRead o s = s.oam.read o.toNat := if_pos h

/-- R91: an offset of 160 or more lies in one of the two ranges past the table. -/
theorem oamRegionOf_past {o : Byte} (h : 160 ≤ o.toNat) : oamRegionOf o = .outA0ToBF ∨ oamRegionOf o = .outC0ToFF := by
  unfold oamRegionOf
  rw [if_neg (by omega), if_neg (by omega)]
  split_ifs
  · exact .inl rfl
  · exact .inr rfl

/-- R276, R277: an OAM transaction past the table reads the sentinel or is ignored. -/
theorem exec_oam_past {o : Byte} (h : 160 ≤ o.toNat) (d : Byte) (s : State) :
    exec (decode (.oamR o)) s = .next (s.emit (.byte 0xFF)) ∧ exec (decode (.oamW o d)) s = .next s := by
  simp only [decode, decodeOamRead, decodeOamWrite]
  rcases oamRegionOf_past h with hr | hr <;> rw [hr] <;> exact ⟨rfl, rfl⟩

/-- R275: the table after a write inside it. -/
theorem oamWrite_read_in {o : Byte} {s : State} (d : Byte) (ho : o.toNat ≤ 159) (hmem : MemoriesCanonical s) (k : Nat) :
    (oamWrite o d s).oam.read k = if k = o.toNat then d else s.oam.read k := by
  obtain ⟨_, _, hoam⟩ := hmem
  rw [oamWrite_read o d s k hoam]
  simp only [ho, true_and]

/-- Settles O30: both instructions of the table are the one write. -/
theorem oamWriteStoresTheByte : Obligations.OamWriteStoresTheByte := by
  refine fun s o d hmem => ⟨fun hlow => ?low, fun _ hhigh => ?high, fun hpast => (exec_oam_past hpast d s).2⟩
  case low => exact ⟨oamWrite o d s, rfl, oamWrite_eq o d s, oamWrite_read_in d (by omega) hmem⟩
  case high => exact ⟨oamWrite o d s, rfl, oamWrite_eq o d s, oamWrite_read_in d hhigh hmem⟩

/-- Settles O29: both instructions of the table are the one read. -/
theorem oamReadReturnsTheStoredByte : Obligations.OamReadReturnsTheStoredByte := by
  intro s o
  have hread : o.toNat ≤ 159 → answer (oamRead o s) s = .next (s.emit (.byte (s.oam.read o.toNat))) := fun ho => by
    rw [answer, oamRead_in s ho]
  exact ⟨fun hlow => hread (by omega), fun _ hhigh => hread hhigh, fun hpast => (exec_oam_past hpast 0 s).1⟩

/-- Settles O31: each instruction is its definition; a transaction at such an address or offset selects one of them. -/
theorem accessesOutsideReadOnesAndStoreNothing : Obligations.AccessesOutsideReadOnesAndStoreNothing := fun s _ _ d =>
  ⟨⟨rfl, rfl, rfl, rfl, rfl, rfl⟩, fun hout => exec_vram_outside hout d s, ⟨rfl, rfl, rfl, rfl⟩,
    fun hpast => exec_oam_past hpast d s⟩

/-! ### The frame buffer (R278) -/

section Pieces

variable {α β : Type} {f : α → List β} {n : Nat} (hf : ∀ a, (f a).length = n)
include hf

/-- Pieces of one length laid end to end. -/
theorem length_flatMap_of_length_eq (l : List α) : (l.flatMap f).length = l.length * n := by
  simp [List.length_flatMap, hf]

/-- Element `j` of piece `i`, where every piece has length `n`, is element `n * i + j` of the whole. -/
theorem getElem?_flatMap_of_length_eq (l : List α) {i j : Nat} (hi : i < l.length) (hj : j < n) :
    (l.flatMap f)[n * i + j]? = (f l[i])[j]? := by
  induction l generalizing i with
  | nil => exact absurd hi (Nat.not_lt_zero i)
  | cons a l ih =>
    rw [List.flatMap_cons]
    cases i with
    | zero => rw [Nat.mul_zero, Nat.zero_add, List.getElem?_append_left (by rw [hf]; exact hj), List.getElem_cons_zero]
    | succ i =>
      rw [List.getElem?_append_right (by rw [hf, Nat.mul_succ]; omega), hf,
        show n * (i + 1) + j - n = n * i + j by rw [Nat.mul_succ]; omega, List.getElem_cons_succ]
      exact ih (Nat.lt_of_succ_lt_succ hi)

end Pieces

/-- R106: a pixel is four bytes. -/
theorem Colour.length_bytes (c : Colour) : c.bytes.length = 4 := rfl

/-- R106: a row is 640 bytes. -/
theorem length_rowBytes (row : PixelRow) : (row.toList.flatMap Colour.bytes).length = 640 := by
  rw [length_flatMap_of_length_eq Colour.length_bytes, Vector.length_toList]

/-- R278: a frame is 92160 bytes. -/
theorem length_frameBytes (fb : Vector PixelRow 144) : (frameBytes fb).length = 92160 := by
  rw [frameBytes, length_flatMap_of_length_eq length_rowBytes, Vector.length_toList]

/-- R278: byte `4 * (160y + x) + j` of a frame is byte `j` of pixel (x, y). -/
theorem frameBytes_getElem? (fb : Vector PixelRow 144) (y : Fin 144) (x : Fin 160) {j : Nat} (hj : j < 4) :
    (frameBytes fb)[4 * (160 * y.val + x.val) + j]? = fb[y][x].bytes[j]? := by
  have hx := x.isLt
  calc (frameBytes fb)[4 * (160 * y.val + x.val) + j]?
      = (frameBytes fb)[640 * y.val + (4 * x.val + j)]? := by congr 1; omega
    _ = (fb[y].toList.flatMap Colour.bytes)[4 * x.val + j]? := by
        rw [frameBytes, getElem?_flatMap_of_length_eq length_rowBytes _ (by simp) (by omega)]
        simp
    _ = fb[y][x].bytes[j]? := by
        rw [getElem?_flatMap_of_length_eq Colour.length_bytes _ (by simp) hj]
        simp

/-- Settles O32: the four components of a pixel are its bytes 0 to 3. -/
theorem frameReadReturnsTheSurface : Obligations.FrameReadReturnsTheSurface := fun s =>
  ⟨frameBytes s.fb, rfl, length_frameBytes s.fb, fun y x =>
    ⟨frameBytes_getElem? s.fb y x (by decide : 0 < 4), frameBytes_getElem? s.fb y x (by decide : 1 < 4),
      frameBytes_getElem? s.fb y x (by decide : 2 < 4), frameBytes_getElem? s.fb y x (by decide : 3 < 4)⟩⟩

end Sys2Proof.Machine
end

section
/-! PROOFS. Refusals and requests (60_exceptions.md): how a well-formed instruction ends and what a run that meets the
refusal shows (R305), and the IF byte a `Step` answers with, bit by bit (R308). -/

namespace Sys2Proof.Machine

/-! ### The refusal (R305) -/

/-- R305: a well-formed instruction ends normally, unless it is the `Step` over 456 cycles. -/
theorem exec_next_or_stepRefused {i : Instr} (hwf : i.wf = true) (s : State) :
    (∃ t, exec i s = .next t) ∨ ∃ n f, 456 < n ∧ i = .stepRefused n f := by
  cases i
  case step n f => exact .inl ⟨_, exec_step_ok n f s (of_decide_eq_true hwf)⟩
  case stepRefused n f => exact .inr ⟨n, f, of_decide_eq_true hwf, rfl⟩
  case wrLcdc d =>
    obtain ⟨t, ht, _⟩ := exec_wrLcdc_stores d s
    exact .inl ⟨t, ht⟩
  case rdVbk | wrVbk =>
    simp only [exec, execRdVbk, execWrVbk]
    split <;> exact .inl ⟨_, rfl⟩
  all_goals exact .inl ⟨_, rfl⟩

/-- R305: the refused instructions, and the one reason. -/
theorem exec_refused_iff {i : Instr} (hwf : i.wf = true) (s : State) (r : Refusal) :
    exec i s = .refused r ↔ r = .stepTooLong ∧ ∃ n f, 456 < n ∧ i = .stepRefused n f := by
  constructor
  · intro hr
    rcases exec_next_or_stepRefused hwf s with ⟨t, ht⟩ | ⟨n, f, hn, rfl⟩
    · rw [ht] at hr
      cases hr
    · exact ⟨(Host.Outcome.refused.inj hr).symm, n, f, hn, rfl⟩
  · rintro ⟨rfl, n, f, _, rfl⟩
    rfl

/-- R305: the operation `Step` over 456 cycles is refused. -/
theorem runOperation_step_refused (s : State) {n : Nat} (f : Byte) (hn : 456 < n) :
    runOperation s (.step n f) = .refused .stepTooLong := by
  rw [runOperation_eq, decode_step_of_gt f hn]
  rfl

/-- R305, of a program's line. -/
theorem runLine_step_refused (h : HostRun) {n : Nat} (hn : 456 < n) : runLine h (.step n) = .refused .stepTooLong := by
  rw [runLine, ProgramLine.transaction, runOperation_step_refused h.st h.ifByte hn]

/-- Settles O35: `exec_refused_iff`, and the laws of a run that meets a refusal, at the refused `Step`. -/
theorem onlyTheLongStepIsRefused : Obligations.OnlyTheLongStepIsRefused := by
  refine ⟨fun i s r hwf => exec_refused_iff hwf s r,
    fun s s' ts he => ⟨observeOperations_of_next he, fun n f rest hn => ?operations⟩,
    fun h n rest hn => runProgram_cons_refused (runLine_step_refused h hn) rest,
    fun h h' ls he => ⟨observe_of_next he, fun n rest hn => observe_of_refused he (runLine_step_refused h' hn) rest⟩⟩
  case operations =>
    have hstep := runOperation_step_refused s' f hn
    exact ⟨(runOperations_append he _).trans (runOperations_cons_refused hstep rest),
      observeOperations_of_refused he hstep rest⟩

/-! ### The requests (R308) -/

/-- R308: a `Step` raises bit 0 by its V-blank row, bit 1 by its STAT rows, and no other bit. -/
theorem ifAfter_getLsbD (n : Nat) (f : Byte) (s : State) (k : Nat) : (ifAfter n f s).getLsbD k =
    (f.getLsbD k || (raisesVBlank n s && decide (k = 0)) || (raisesStat n s && decide (k = 1))) := by
  simp only [ifAfter, request_stat, request_vblank, raisesVBlank, raisesStat, Bool.and_or_distrib_right, Bool.or_assoc]

/-- Settles O40: `ifAfter_getLsbD` at bits 0, 1 and above. -/
theorem stepRaisesTheRequestsOfTheTable : Obligations.StepRaisesTheRequestsOfTheTable := by
  refine fun s n f hn => ⟨_, ifAfter n f s, entersVBlank n s, exec_step_ok n f s hn, ?results, ?bit0, ?bit1,
    fun k hk => ?others⟩
  case results => rw [State.emit_results, stepped_results]
  case bit0 =>
    rw [ifAfter_getLsbD]
    simp
  case bit1 =>
    rw [ifAfter_getLsbD]
    simp
  case others =>
    have h0 : k ≠ 0 := by omega
    have h1 : k ≠ 1 := by omega
    rw [ifAfter_getLsbD]
    simp [h0, h1]

end Sys2Proof.Machine
end

section
/-! PROOFS. Decoder and encoder are inverse (30_encoding.md): each row of the port map and each region of an address
or offset is a range of operands, and the byte layout of log entry 8 loses nothing. -/

namespace Sys2Proof

/-! ### The rows of the operation map as ranges (R91, R92, R107) -/

/-- The first port of a row of the port map. -/
def Port.first : Port → Nat
  | .unmapped00To3F => 0x00 | .lcdc => 0x40 | .stat => 0x41 | .scy => 0x42 | .scx => 0x43 | .ly => 0x44 | .lyc => 0x45
  | .unmapped46 => 0x46 | .bgp => 0x47 | .obp0 => 0x48 | .obp1 => 0x49 | .wy => 0x4A | .wx => 0x4B | .unmapped4C => 0x4C
  | .unmapped4D => 0x4D | .unmapped4E => 0x4E | .vbk => 0x4F | .unmapped50To5F => 0x50 | .unmapped60To7F => 0x60
  | .unmapped80ToFF => 0x80

/-- The last port of a row of the port map. -/
def Port.last : Port → Nat
  | .unmapped00To3F => 0x3F | .unmapped50To5F => 0x5F | .unmapped60To7F => 0x7F | .unmapped80ToFF => 0xFF
  | port => port.first

/-- R92, R107: a row of the port map is selected by the ports of its range. -/
theorem portOf_eq_iff (p : Byte) (port : Port) : portOf p = port ↔ inRange port.first port.last p.toNat = true := by
  cases port <;> revert p <;> decide +kernel

/-- A range contains the numbers between its ends. -/
theorem inRange_iff {lo hi x : Nat} : inRange lo hi x = true ↔ lo ≤ x ∧ x ≤ hi := by
  rw [inRange, Bool.and_eq_true, decide_eq_true_eq, decide_eq_true_eq]

/-- The first address of a region of the VRAM port. -/
def VramRegion.first : VramRegion → Nat
  | .out0000To7FFF => 0x0000 | .window => 0x8000 | .outA000ToBFFF => 0xA000 | .outC000ToFFFF => 0xC000

/-- The last address of a region of the VRAM port. -/
def VramRegion.last : VramRegion → Nat
  | .out0000To7FFF => 0x7FFF | .window => 0x9FFF | .outA000ToBFFF => 0xBFFF | .outC000ToFFFF => 0xFFFF

/-- R91, R107: a region of the VRAM port is selected by the addresses of its range. -/
theorem vramRegionOf_eq_iff (a : Addr) (r : VramRegion) :
    vramRegionOf a = r ↔ inRange r.first r.last a.toNat = true := by
  have ha := a.isLt
  rw [inRange_iff, vramRegionOf]
  cases r <;> split_ifs <;> simp only [VramRegion.first, VramRegion.last, true_iff, false_iff] <;> omega

/-- The first offset of a region of the OAM port. -/
def OamRegion.first : OamRegion → Nat
  | .table00To7F => 0x00 | .table80To9F => 0x80 | .outA0ToBF => 0xA0 | .outC0ToFF => 0xC0

/-- The last offset of a region of the OAM port. -/
def OamRegion.last : OamRegion → Nat
  | .table00To7F => 0x7F | .table80To9F => 0x9F | .outA0ToBF => 0xBF | .outC0ToFF => 0xFF

/-- R91, R107: a region of the OAM port is selected by the offsets of its range. -/
theorem oamRegionOf_eq_iff (o : Byte) (r : OamRegion) : oamRegionOf o = r ↔ inRange r.first r.last o.toNat = true := by
  cases r <;> revert o <;> decide +kernel

/-! ### Transactions -/

/-- R305: no operand value is illegal. -/
theorem decode_wf_and_encode (t : Transaction) : (decode t).wf = true ∧ encode (decode t) = t := by
  cases t with
  | portR p =>
    simp only [decode, decodePortRead]
    cases hp : portOf p <;> have hrange := (portOf_eq_iff p _).mp hp
    case unmapped00To3F | unmapped50To5F | unmapped60To7F | unmapped80ToFF => exact ⟨hrange, rfl⟩
    all_goals
      obtain ⟨hlo, hhi⟩ := inRange_iff.mp hrange
      exact ⟨rfl, congrArg Transaction.portR (BitVec.eq_of_toNat_eq (Nat.le_antisymm hlo hhi))⟩
  | portW p d =>
    simp only [decode, decodePortWrite]
    cases hp : portOf p <;> have hrange := (portOf_eq_iff p _).mp hp
    case unmapped00To3F | unmapped50To5F | unmapped60To7F | unmapped80ToFF => exact ⟨hrange, rfl⟩
    all_goals
      obtain ⟨hlo, hhi⟩ := inRange_iff.mp hrange
      exact ⟨rfl, congrArg (Transaction.portW · d) (BitVec.eq_of_toNat_eq (Nat.le_antisymm hlo hhi))⟩
  | vramR a | vramW a d =>
    simp only [decode, decodeVramRead, decodeVramWrite]
    cases hr : vramRegionOf a <;> exact ⟨(vramRegionOf_eq_iff a _).mp hr, rfl⟩
  | oamR o | oamW o d =>
    simp only [decode, decodeOamRead, decodeOamWrite]
    cases hr : oamRegionOf o <;> exact ⟨(oamRegionOf_eq_iff o _).mp hr, rfl⟩
  | step n f =>
    simp only [decode, decodeStep]
    split_ifs with hn
    · exact ⟨decide_eq_true hn, rfl⟩
    · exact ⟨decide_eq_true (Nat.lt_of_not_le hn), rfl⟩
  | fbR => exact ⟨rfl, rfl⟩

/-- R92, R107: a well-formed instruction is the one its transaction selects. -/
theorem decode_encode {i : Instr} (h : i.wf = true) : decode (encode i) = i := by
  have hport : ∀ {p : Byte} (port : Port), inRange port.first port.last p.toNat = true → portOf p = port :=
    fun port => (portOf_eq_iff _ port).mpr
  have hvram : ∀ {a : Addr} (r : VramRegion), inRange r.first r.last a.toNat = true → vramRegionOf a = r :=
    fun r => (vramRegionOf_eq_iff _ r).mpr
  have hoam : ∀ {o : Byte} (r : OamRegion), inRange r.first r.last o.toNat = true → oamRegionOf o = r :=
    fun r => (oamRegionOf_eq_iff _ r).mpr
  cases i <;> simp only [encode, decode, decodePortRead, decodePortWrite, decodeVramRead, decodeVramWrite, decodeOamRead,
    decodeOamWrite, decodeStep]
  case rdUnmapped00To3F | wrUnmapped00To3F => rw [hport .unmapped00To3F h]
  case rdUnmapped50To5F | wrUnmapped50To5F => rw [hport .unmapped50To5F h]
  case rdUnmapped60To7F | wrUnmapped60To7F => rw [hport .unmapped60To7F h]
  case rdUnmapped80ToFF | wrUnmapped80ToFF => rw [hport .unmapped80ToFF h]
  case vramRd | vramWr => rw [hvram .window h]
  case vramRdOut0000To7FFF | vramWrOut0000To7FFF => rw [hvram .out0000To7FFF h]
  case vramRdOutA000ToBFFF | vramWrOutA000ToBFFF => rw [hvram .outA000ToBFFF h]
  case vramRdOutC000ToFFFF | vramWrOutC000ToFFFF => rw [hvram .outC000ToFFFF h]
  case oamRd00To7F | oamWr00To7F => rw [hoam .table00To7F h]
  case oamRd80To9F | oamWr80To9F => rw [hoam .table80To9F h]
  case oamRdOutA0ToBF | oamWrOutA0ToBF => rw [hoam .outA0ToBF h]
  case oamRdOutC0ToFF | oamWrOutC0ToFF => rw [hoam .outC0ToFF h]
  case step => exact if_pos (of_decide_eq_true h)
  case stepRefused => exact if_neg (Nat.not_le.mpr (of_decide_eq_true h))
  all_goals rfl

/-- Settles O2: every row and region of the decoder gives its transaction back. -/
theorem everyTransactionSelectsAnInstruction : Obligations.EveryTransactionSelectsAnInstruction := decode_wf_and_encode

/-! ### Bytes (log entry 8) -/

/-- A number is read back from its bytes, given as much fuel as the number. -/
theorem natOfBytes_bytesOfNat {fuel n : Nat} (h : n ≤ fuel) : natOfBytes (bytesOfNat fuel n) = n := by
  induction fuel generalizing n with
  | zero => exact (Nat.le_zero.mp h).symm
  | succ fuel ih =>
    rw [bytesOfNat]
    split_ifs with hn
    · exact hn.symm
    · rw [natOfBytes, ih (by omega), BitVec.toNat_ofNat]
      omega

/-- An address put together from two bytes is taken apart again. -/
theorem lowByte_append (lo hi : Byte) : lowByte (hi ++ lo) = lo := BitVec.extractLsb'_append_eq_right

/-- See `lowByte_append`. -/
theorem highByte_append (lo hi : Byte) : highByte (hi ++ lo) = hi := BitVec.extractLsb'_append_eq_left

/-- An address is its two bytes. -/
theorem highByte_append_lowByte (a : Addr) : highByte a ++ lowByte a = a :=
  (BitVec.extractLsb'_append_extractLsb'_eq_extractLsb' rfl).trans BitVec.extractLsb'_eq_self

/-- The byte layout loses nothing of a transaction. -/
theorem readTransaction_writeTransaction (t : Transaction) :
    readTransaction t.interface (writeTransaction t) = .ok t := by
  cases t with
  | vramR a => exact congrArg (fun a => Except.ok (Transaction.vramR a)) (highByte_append_lowByte a)
  | vramW a d => exact congrArg (fun a => Except.ok (Transaction.vramW a d)) (highByte_append_lowByte a)
  | step n f => exact congrArg (fun n => Except.ok (Transaction.step n f)) (natOfBytes_bytesOfNat (Nat.le_refl n))
  | portR | portW | oamR | oamW | fbR => rfl

/-- Settles O1: the transaction is read back from its bytes, and the instruction from its transaction. -/
theorem decodeReadsBackEveryInstruction : Obligations.DecodeReadsBackEveryInstruction := by
  refine fun i hwf => ⟨decode_encode hwf, ?bytes⟩
  case bytes =>
    rw [decodeBytes, encodeBytes, readTransaction_writeTransaction]
    exact congrArg Except.ok (decode_encode hwf)

/-- One operand byte is read from exactly one byte. -/
theorem oneByte_ok {bs : List Byte} {x : Byte} (h : oneByte bs = .ok x) : bs = [x] := by
  match bs, h with
  | [_], rfl => rfl

/-- Two operand bytes, from exactly two. -/
theorem twoBytes_ok {bs : List Byte} {x : Byte × Byte} (h : twoBytes bs = .ok x) : bs = [x.1, x.2] := by
  match bs, h with
  | [_, _], rfl => rfl

/-- Three operand bytes, from exactly three. -/
theorem threeBytes_ok {bs : List Byte} {x : Byte × Byte × Byte} (h : threeBytes bs = .ok x) :
    bs = [x.1, x.2.1, x.2.2] := by
  match bs, h with
  | [_, _, _], rfl => rfl

/-- A mapped reading that succeeds comes from one that does. -/
theorem map_ok {α β ε : Type} {f : α → β} {e : Except ε α} {b : β} (h : e.map f = .ok b) : ∃ a, e = .ok a ∧ f a = b := by
  cases e with
  | error => cases h
  | ok a => exact ⟨a, rfl, Except.ok.inj h⟩

/-- Bytes that are a transaction of an interface are the transaction's, but for zero bytes at the top of a cycle count. -/
theorem writeTransaction_of_read {k : Interface} {bs : List Byte} {t : Transaction} (h : readTransaction k bs = .ok t) :
    t.interface = k ∧ (k ≠ .step → writeTransaction t = bs) := by
  cases k with
  | portR | oamR =>
    obtain ⟨p, hp, rfl⟩ := map_ok h
    exact ⟨rfl, fun _ => (oneByte_ok hp).symm⟩
  | portW | oamW =>
    obtain ⟨x, hx, rfl⟩ := map_ok h
    exact ⟨rfl, fun _ => (twoBytes_ok hx).symm⟩
  | vramR =>
    obtain ⟨x, hx, rfl⟩ := map_ok h
    refine ⟨rfl, fun _ => ?_⟩
    rw [twoBytes_ok hx, writeTransaction, lowByte_append, highByte_append]
  | vramW =>
    obtain ⟨x, hx, rfl⟩ := map_ok h
    refine ⟨rfl, fun _ => ?_⟩
    rw [threeBytes_ok hx, writeTransaction, lowByte_append, highByte_append]
  | step =>
    match bs, h with
    | _ :: _, rfl => exact ⟨rfl, fun hstep => absurd rfl hstep⟩
  | fbR =>
    match bs, h with
    | [], rfl => exact ⟨rfl, fun _ => rfl⟩

/-- Settles O3: the bytes are a transaction's, and the transaction is the encoding of what it selects. -/
theorem decodedBytesAreTheInstructions : Obligations.DecodedBytesAreTheInstructions := by
  intro k bs i h
  rw [decodeBytes] at h
  cases hread : readTransaction k bs with
  | error e => rw [hread] at h; cases h
  | ok t =>
    rw [hread] at h
    obtain rfl := Except.ok.inj h
    obtain ⟨hwf, henc⟩ := decode_wf_and_encode t
    rw [encodeBytes, henc]
    exact ⟨hwf, writeTransaction_of_read hread⟩

/-! ### The opcode table (R90, R107) -/

/-- The row of every well-formed instruction is in the table and accepts its operand: the laws of Laws/PerInstr.lean. -/
theorem Laws.TableRow.statement (i : Instr) : Laws.TableRow.Statement i := open Laws.TableRow in
  match i with
  | .rdLcdc => rdLcdc | .wrLcdc d => wrLcdc d | .rdStat => rdStat | .wrStat d => wrStat d | .rdScy => rdScy
  | .wrScy d => wrScy d | .rdScx => rdScx | .wrScx d => wrScx d | .rdLy => rdLy | .wrLy d => wrLy d
  | .rdLyc => rdLyc | .wrLyc d => wrLyc d | .rdBgp => rdBgp | .wrBgp d => wrBgp d | .rdObp0 => rdObp0
  | .wrObp0 d => wrObp0 d | .rdObp1 => rdObp1 | .wrObp1 d => wrObp1 d | .rdWy => rdWy | .wrWy d => wrWy d
  | .rdWx => rdWx | .wrWx d => wrWx d | .rdVbk => rdVbk | .wrVbk d => wrVbk d
  | .rdUnmapped00To3F p => rdUnmapped00To3F p | .wrUnmapped00To3F p d => wrUnmapped00To3F p d
  | .rdUnmapped46 => rdUnmapped46 | .wrUnmapped46 d => wrUnmapped46 d | .rdUnmapped4C => rdUnmapped4C
  | .wrUnmapped4C d => wrUnmapped4C d | .rdUnmapped4D => rdUnmapped4D | .wrUnmapped4D d => wrUnmapped4D d
  | .rdUnmapped4E => rdUnmapped4E | .wrUnmapped4E d => wrUnmapped4E d | .rdUnmapped50To5F p => rdUnmapped50To5F p
  | .wrUnmapped50To5F p d => wrUnmapped50To5F p d | .rdUnmapped60To7F p => rdUnmapped60To7F p
  | .wrUnmapped60To7F p d => wrUnmapped60To7F p d | .rdUnmapped80ToFF p => rdUnmapped80ToFF p
  | .wrUnmapped80ToFF p d => wrUnmapped80ToFF p d | .vramRd a => vramRd a | .vramWr a d => vramWr a d
  | .vramRdOut0000To7FFF a => vramRdOut0000To7FFF a | .vramWrOut0000To7FFF a d => vramWrOut0000To7FFF a d
  | .vramRdOutA000ToBFFF a => vramRdOutA000ToBFFF a | .vramWrOutA000ToBFFF a d => vramWrOutA000ToBFFF a d
  | .vramRdOutC000ToFFFF a => vramRdOutC000ToFFFF a | .vramWrOutC000ToFFFF a d => vramWrOutC000ToFFFF a d
  | .oamRd00To7F o => oamRd00To7F o | .oamWr00To7F o d => oamWr00To7F o d | .oamRd80To9F o => oamRd80To9F o
  | .oamWr80To9F o d => oamWr80To9F o d | .oamRdOutA0ToBF o => oamRdOutA0ToBF o
  | .oamWrOutA0ToBF o d => oamWrOutA0ToBF o d | .oamRdOutC0ToFF o => oamRdOutC0ToFF o
  | .oamWrOutC0ToFF o d => oamWrOutC0ToFF o d | .step n f => step n f | .stepRefused n f => stepRefused n f
  | .frameRd => frameRd

/-- Two selectors share no key, by their masks or by their bounds. -/
def Selector.apart : Selector → Selector → Bool
  | .bits m v, .bits m' v' => v &&& m' != v' &&& m
  | .cyclesAtMost b, .cyclesOver c | .cyclesOver c, .cyclesAtMost b => decide (b ≤ c)
  | _, _ => false

/-- A key that one of two such selectors accepts is not accepted by the other. -/
theorem Selector.not_accepts_of_apart {a b : Selector} (h : a.apart b = true) {key : Nat} (ha : a.accepts key = true) :
    b.accepts key = false := by
  refine Bool.eq_false_of_not_eq_true fun hb => ?_
  unfold Selector.apart at h
  split at h
  · simp only [Selector.accepts, beq_iff_eq] at ha hb
    subst ha hb
    simp [Nat.and_right_comm] at h
  · simp only [Selector.accepts, decide_eq_true_eq] at h ha hb
    omega
  · simp only [Selector.accepts, decide_eq_true_eq] at h ha hb
    omega
  · cases h

/-- No two rows of the table select one transaction: they are of two interfaces or their selectors are apart. -/
theorem opcodeTable_pairwise_apart :
    opcodeTable.Pairwise fun r r' => r.format ≠ r'.format ∨ r.select.apart r'.select = true := by
  decide +kernel

/-- A row covers the transactions of its interface whose operand its selector accepts. -/
theorem TableRow.covers_iff (r : TableRow) (t : Transaction) :
    r.covers t = true ↔ r.format = t.interface ∧ r.select.accepts t.key = true := by
  rw [TableRow.covers, Bool.and_eq_true, beq_iff_eq]

/-- A transaction a row covers is covered by no later row. -/
theorem opcodeTable_pairwise_covers (t : Transaction) :
    opcodeTable.Pairwise fun r r' => r.covers t = true → r'.covers t = false := by
  refine opcodeTable_pairwise_apart.imp fun {r r'} hapart hr => Bool.eq_false_of_not_eq_true fun hr' => ?_
  obtain ⟨hformat, haccepts⟩ := (r.covers_iff t).mp hr
  obtain ⟨hformat', haccepts'⟩ := (r'.covers_iff t).mp hr'
  rcases hapart with hne | hapart
  · exact hne (hformat.trans hformat'.symm)
  · rw [Selector.not_accepts_of_apart hapart haccepts] at haccepts'
    cases haccepts'

/-- An element that passes a filter, where no two elements do, is all that is left. -/
theorem filter_eq_singleton {α : Type} {p : α → Bool} {l : List α} {a : α} (ha : a ∈ l) (hp : p a = true)
    (hl : l.Pairwise fun x y => p x = true → p y = false) : l.filter p = [a] := by
  induction l with
  | nil => cases ha
  | cons x l ih =>
    obtain ⟨hx, hl⟩ := List.pairwise_cons.mp hl
    rcases List.mem_cons.mp ha with rfl | ha
    · have hrest : l.filter p = [] := List.filter_eq_nil_iff.mpr fun y hy => by simp [hx y hy hp]
      rw [List.filter_cons_of_pos hp, hrest]
    · have hpx : ¬ p x = true := fun hpx => by simp [hx a ha hpx] at hp
      rw [List.filter_cons_of_neg hpx, ih ha hl]

/-- Settles O4: the row of the selected instruction covers the transaction, and no second row does. -/
theorem exactlyOneTableRowCoversATransaction : Obligations.ExactlyOneTableRowCoversATransaction := by
  intro t
  obtain ⟨hwf, henc⟩ := decode_wf_and_encode t
  obtain ⟨sel, hmem, haccepts⟩ := Laws.TableRow.statement (decode t) hwf
  rw [henc] at hmem haccepts
  rw [filter_eq_singleton hmem ((TableRow.covers_iff _ t).mpr ⟨rfl, haccepts⟩) (opcodeTable_pairwise_covers t)]
  rfl

/-! ### Words and bits (R91, R92) -/

namespace Machine

/-- Settles O5: the decoder evaluates at each word. -/
theorem wordsWrittenOutDecode : Obligations.WordsWrittenOutDecode := by
  refine ⟨?_, ?_, ?_, ?_, ?_, ?_, ?_, ?_, ?_, ?_, ?_⟩ <;> rfl

/-- R91: bits 15 to 13 of an address are its 8192-byte page, and the window is page 0b100. -/
theorem window_iff_bits (a : Addr) : a.extractLsb' 13 3 = 0b100 ↔ vramRegionOf a = .window := by
  have ha := a.isLt
  have hbits : (a.extractLsb' 13 3).toNat = a.toNat / 8192 % 8 := by
    rw [BitVec.extractLsb'_toNat, Nat.shiftRight_eq_div_pow]
  rw [vramRegionOf_eq_window_iff, ← BitVec.toNat_inj, hbits, show (4 : BitVec 3).toNat = 4 from rfl]
  omega

/-- R91: the bank offset of a window address is its low 13 bits. -/
theorem vramOffset_eq_bits {a : Addr} (h : vramRegionOf a = .window) : vramOffset a = (a.extractLsb' 0 13).toNat := by
  have hrange := (vramRegionOf_eq_window_iff a).mp h
  have hbits : (a.extractLsb' 0 13).toNat = a.toNat % 8192 := by rw [BitVec.extractLsb'_toNat, Nat.shiftRight_zero]
  rw [hbits]
  unfold vramOffset
  omega

/-- R91: the two regions of the sprite table. -/
theorem oamRegionOf_table_iff (o : Byte) :
    oamRegionOf o = .table00To7F ∨ oamRegionOf o = .table80To9F ↔ o.toNat ≤ 159 := by
  rw [oamRegionOf_eq_iff, oamRegionOf_eq_iff, inRange_iff, inRange_iff]
  simp only [OamRegion.first, OamRegion.last]
  omega

/-- R91: the decoder selects a read or a write of the table in those two regions. -/
theorem decode_oam_table_iff (o d : Byte) :
    (decode (.oamR o) = .oamRd00To7F o ∨ decode (.oamR o) = .oamRd80To9F o ↔ o.toNat ≤ 159) ∧
      (decode (.oamW o d) = .oamWr00To7F o d ∨ decode (.oamW o d) = .oamWr80To9F o d ↔ o.toNat ≤ 159) := by
  rw [← oamRegionOf_table_iff]
  simp only [decode, decodeOamRead, decodeOamWrite]
  cases oamRegionOf o <;> simp

/-- Settles O7: the window is the page 0b100, and the decoder branches on the region. -/
theorem windowAndTableAreDecodedByTheirBits : Obligations.WindowAndTableAreDecodedByTheirBits := by
  refine ⟨fun a => ⟨fun hbits => ?window, fun hbits => ?outside⟩, fun o =>
    ⟨(decode_oam_table_iff o 0).1, fun d => (decode_oam_table_iff o d).2⟩⟩
  case window =>
    have hr : vramRegionOf a = .window := (window_iff_bits a).mp hbits
    simp only [decode, decodeVramRead, decodeVramWrite, hr, vramOffset_eq_bits hr, implies_true, and_self]
  case outside =>
    have hr : vramRegionOf a ≠ .window := fun hw => hbits ((window_iff_bits a).mpr hw)
    simp only [decode, decodeVramRead, decodeVramWrite]
    cases h : vramRegionOf a
    case window => exact absurd h hr
    case out0000To7FFF | outA000ToBFFF | outC000ToFFFF => exact ⟨nofun, nofun⟩

end Machine
end Sys2Proof
end

section
/-! PROOFS. What an operation can do, said once (`Effect`), and what follows case by case: how operations end
(60_exceptions.md R304 to R306), which fields each of them writes (10_state.md), and the register bank as a whole
(40_register_bank.md R157). -/

namespace Sys2Proof.Machine

/-- The ways an operation `i` can end normally from `s`: the state it leaves, and which operations may do so. -/
inductive Effect (i : Instr) (s : State) : State → Prop where
  /-- A read gives a byte back. -/
  | byte (d : Byte) (hi : i.isRead = true) : Effect i s (s.emit (.byte d))
  /-- The frame read gives the frame back. -/
  | frame (hi : i = .frameRd) : Effect i s (s.emit (.frame (frameBytes s.fb)))
  /-- A write is ignored. -/
  | ignored (hi : i.isWrite = true) : Effect i s s
  /-- A port write stores in the bank, a palette register excepted, and the bank select in extended mode only. -/
  | store (g : Regs) (hi : ∃ p d, encode i = .portW p d)
      (hpal : g.bgp = s.reg.bgp ∧ g.obp0 = s.reg.obp0 ∧ g.obp1 = s.reg.obp1)
      (hvbk : s.cfg.extendedMode = false → g.vbk = s.reg.vbk) : Effect i s (s.setReg g)
  /-- An LCDC write that turns the display on restarts the position (R132). -/
  | restart (d : Byte) (hi : i = .wrLcdc d) :
      Effect i s ((s.setReg { s.reg with lcdc := d }).setPos 0 s.cfg.lcdEnableCycleOffset.val)
  /-- A palette write stores and recompiles (R144, R146, R148). -/
  | bgp (d : Byte) (hi : i = .wrBgp d) :
      Effect i s ((s.setReg { s.reg with bgp := d }).setPalBg (compile s.cfg.baseColours d))
  | obp0 (d : Byte) (hi : i = .wrObp0 d) :
      Effect i s ((s.setReg { s.reg with obp0 := d }).setPalObp0 (compile s.cfg.baseColours d))
  | obp1 (d : Byte) (hi : i = .wrObp1 d) :
      Effect i s ((s.setReg { s.reg with obp1 := d }).setPalObp1 (compile s.cfg.baseColours d))
  /-- A VRAM write (R271). -/
  | vram (a : Addr) (d : Byte) (hi : encode i = .vramW a d) : Effect i s (vramWrite a d s)
  /-- An OAM write (R275). -/
  | oam (o d : Byte) (hi : encode i = .oamW o d) : Effect i s (oamWrite o d s)
  /-- A `Step` (R171). -/
  | step (n : Nat) (f : Byte) (hi : i = .step n f) (hn : n ≤ 456) :
      Effect i s ((stepped n s).emit (.stepped (ifAfter n f s) (entersVBlank n s)))

/-- R132: an LCDC write stores, or stores and restarts. -/
theorem exec_wrLcdc_cases (d : Byte) (s : State) :
    exec (.wrLcdc d) s = .next (s.setReg { s.reg with lcdc := d }) ∨
      exec (.wrLcdc d) s = .next ((s.setReg { s.reg with lcdc := d }).setPos 0 s.cfg.lcdEnableCycleOffset.val) := by
  by_cases h : s.reg.lcdc.getLsbD 7 = true ∨ d.getLsbD 7 = false
  · exact .inl (exec_wrLcdc_store h)
  · obtain ⟨hoff, hon⟩ := not_or.mp h
    exact .inr (exec_wrLcdc_restart (Bool.eq_false_of_not_eq_true hoff) (Bool.eq_true_of_not_eq_false hon))

/-- Every operation ends normally, in one of these ways, or is a refused `Step`. -/
theorem exec_effect_or_refused (i : Instr) (s : State) :
    (∃ t, exec i s = .next t ∧ Effect i s t) ∨ (i.isStep = true ∧ exec i s = .refused .stepTooLong) := by
  cases i
  case step n f =>
    by_cases hn : n ≤ 456
    · exact .inl ⟨_, exec_step_ok n f s hn, .step n f rfl hn⟩
    · exact .inr ⟨rfl, stepBlock_refused n f s (Nat.lt_of_not_le hn)⟩
  case stepRefused => exact .inr ⟨rfl, rfl⟩
  case frameRd => exact .inl ⟨_, rfl, .frame rfl⟩
  case wrLcdc d =>
    rcases exec_wrLcdc_cases d s with h | h
    · exact .inl ⟨_, h, .store _ ⟨_, _, rfl⟩ ⟨rfl, rfl, rfl⟩ fun _ => rfl⟩
    · exact .inl ⟨_, h, .restart d rfl⟩
  case rdVbk =>
    simp only [exec, execRdVbk]
    split <;> exact .inl ⟨_, rfl, .byte _ rfl⟩
  case wrVbk =>
    simp only [exec, execWrVbk]
    split
    case isTrue hext => exact .inl ⟨_, rfl, .store _ ⟨_, _, rfl⟩ ⟨rfl, rfl, rfl⟩ fun h => by simp [hext] at h⟩
    case isFalse => exact .inl ⟨_, rfl, .ignored rfl⟩
  case wrStat | wrScy | wrScx | wrLyc | wrWy | wrWx =>
    exact .inl ⟨_, rfl, .store _ ⟨_, _, rfl⟩ ⟨rfl, rfl, rfl⟩ fun _ => rfl⟩
  case wrBgp d => exact .inl ⟨_, rfl, .bgp d rfl⟩
  case wrObp0 d => exact .inl ⟨_, rfl, .obp0 d rfl⟩
  case wrObp1 d => exact .inl ⟨_, rfl, .obp1 d rfl⟩
  case vramWr a d => exact .inl ⟨_, rfl, .vram a d rfl⟩
  case oamWr00To7F o d | oamWr80To9F o d => exact .inl ⟨_, rfl, .oam o d rfl⟩
  case wrLy | wrUnmapped00To3F | wrUnmapped46 | wrUnmapped4C | wrUnmapped4D | wrUnmapped4E | wrUnmapped50To5F |
      wrUnmapped60To7F | wrUnmapped80ToFF | vramWrOut0000To7FFF | vramWrOutA000ToBFFF | vramWrOutC000ToFFFF |
      oamWrOutA0ToBF | oamWrOutC0ToFF =>
    exact .inl ⟨_, rfl, .ignored rfl⟩
  all_goals exact .inl ⟨_, rfl, .byte _ rfl⟩

/-- An operation that ends normally does so in one of these ways. -/
theorem exec_effect {i : Instr} {s t : State} (h : exec i s = .next t) : Effect i s t := by
  rcases exec_effect_or_refused i s with ⟨t', ht', heff⟩ | ⟨_, href⟩
  · obtain rfl := Host.Outcome.next.inj (ht'.symm.trans h)
    exact heff
  · cases href.symm.trans h

/-- An operation that is no `Step` ends normally. -/
theorem exec_next_of_not_isStep {i : Instr} (hi : i.isStep = false) (s : State) :
    ∃ t, exec i s = .next t ∧ Effect i s t := by
  refine (exec_effect_or_refused i s).resolve_right fun ⟨hstep, _⟩ => ?_
  rw [hi] at hstep
  cases hstep

/-! ### How operations end -/

/-- Settles O9: only a refused `Step` does not end normally. -/
theorem everyOtherOperationCompletes : Obligations.EveryOtherOperationCompletes := fun _ s hwf hi =>
  (exec_next_or_stepRefused hwf s).resolve_right fun ⟨n, f, _, h⟩ => hi n f h

/-- An operation does not fault. -/
theorem exec_ne_fault (i : Instr) (s : State) (r : Fault) : exec i s ≠ .fault r := by
  rcases exec_effect_or_refused i s with ⟨t, ht, _⟩ | ⟨_, href⟩
  · rw [ht]; nofun
  · rw [href]; nofun

/-- A step with nothing waiting changes nothing. -/
theorem step_of_inbox_nil {s : State} (h : s.inbox = []) : step s = .next s := by
  rw [step, h]

/-- A step runs the oldest waiting transaction. -/
theorem step_of_inbox_cons {s : State} {t : Transaction} {ts : List Transaction} (h : s.inbox = t :: ts) :
    step s = exec (decode t) (s.setInbox ts) := by
  rw [step, h]

/-- Settles O36: a step is an operation or nothing. -/
theorem noOperationFaults : Obligations.NoOperationFaults := by
  refine fun i s r => ⟨exec_ne_fault i s r, ?_⟩
  cases h : s.inbox with
  | nil =>
    rw [step_of_inbox_nil h]
    nofun
  | cons t ts =>
    rw [step_of_inbox_cons h]
    exact exec_ne_fault _ _ r

/-- Settles O8: the two cases of a step, and an instruction is read back from its transaction. -/
theorem stepRunsTheOldestTransaction : Obligations.StepRunsTheOldestTransaction := by
  refine ⟨fun i s ts hwf h => ?_, fun s t ts h => step_of_inbox_cons h, fun s h => step_of_inbox_nil h⟩
  rw [step_of_inbox_cons h, decode_encode hwf]
  rfl

/-! ### Who writes what -/

/-- Settles O10: no way to end touches the two fields or gives two results. -/
theorem parametersNeverChange : Obligations.ParametersNeverChange := by
  intro i s t h
  cases exec_effect h with
  | byte | frame => exact ⟨rfl, rfl, [_], rfl, Nat.le_refl 1⟩
  | ignored | store | restart | bgp | obp0 | obp1 => exact ⟨rfl, rfl, [], rfl, Nat.zero_le 1⟩
  | vram => rw [vramWrite_eq]; exact ⟨rfl, rfl, [], rfl, Nat.zero_le 1⟩
  | oam => rw [oamWrite_eq]; exact ⟨rfl, rfl, [], rfl, Nat.zero_le 1⟩
  | step n f => exact ⟨stepped_cfg n s, stepped_inbox n s, [_], congrArg (_ :: ·) (stepped_results n s), Nat.le_refl 1⟩

/-- Settles O14: each way to end changes the fields of its updates only; a `Step` draws with the display on only. -/
theorem eachFieldChangesOnlyByItsWriters : Obligations.EachFieldChangesOnlyByItsWriters := by
  intro i s t h
  cases exec_effect h with
  | byte | frame | ignored => simp
  | store g hi => simp [hi]
  | restart d hi => subst hi; simp [encode]
  | bgp d hi | obp0 d hi | obp1 d hi => subst hi; simp [encode]
  | vram a d hi => rw [vramWrite_eq]; simp [hi]
  | oam o d hi => rw [oamWrite_eq]; simp [hi]
  | step n f hi =>
    subst hi
    have hpic : (stepped n s).fb ≠ s.fb ∨ (stepped n s).prio ≠ s.prio ∨ (stepped n s).spriteDone ≠ s.spriteDone →
        s.reg.lcdc.getLsbD 7 = true := fun hne => by
      by_contra hoff
      obtain ⟨_, _, _, hfb, hprio, hdone⟩ := samePicture_stepped_of_display_off n (Bool.eq_false_of_not_eq_true hoff)
      exact hne.elim (· hfb) fun h => h.elim (· hprio) (· hdone)
    simpa [Instr.isStep, encode, Transaction.interface] using hpic

/-- The register port carries the two port formats. -/
theorem onRegisterPort_cases {i : Instr} (h : i.onRegisterPort = true) :
    ∃ p, encode i = .portR p ∨ ∃ d, encode i = .portW p d := by
  unfold Instr.onRegisterPort at h
  cases henc : encode i <;> rw [henc] at h
  case portR p => exact ⟨p, .inl rfl⟩
  case portW p d => exact ⟨p, .inr ⟨d, rfl⟩⟩
  all_goals cases h

/-- Settles O26: of the ways an operation can end, those of a register port. -/
theorem registerOperationsTouchNoPicture : Obligations.RegisterOperationsTouchNoPicture := by
  intro i s hi
  have henc := onRegisterPort_cases hi
  have hstep : i.isStep = false := by
    rcases henc with ⟨p, h | ⟨d, h⟩⟩ <;> rw [Instr.isStep, h] <;> rfl
  obtain ⟨t, ht, heff⟩ := exec_next_of_not_isStep hstep s
  refine ⟨t, ht, ?_⟩
  cases heff with
  | byte b => exact ⟨⟨rfl, rfl, rfl, rfl, rfl, rfl⟩, rfl, rfl, rfl, rfl, .inr ⟨b, rfl⟩⟩
  | ignored | store | restart | bgp | obp0 | obp1 => exact ⟨⟨rfl, rfl, rfl, rfl, rfl, rfl⟩, rfl, rfl, rfl, rfl, .inl rfl⟩
  | vram a d h | oam o d h => simp [h] at henc
  | frame h | step n f h =>
    subst h
    cases hi

/-! ### Reads -/

/-- Every read gives back a result that is a function of the state, and not of the results given before. -/
theorem exec_read {i : Instr} (hi : i.isRead = true) : ∃ read : State → Result,
    (∀ s, exec i s = .next (s.emit (read s))) ∧ ∀ s rs, read { s with results := rs } = read s := by
  cases i <;> cases hi
  case rdVbk =>
    refine ⟨fun s => .byte (if s.cfg.extendedMode then (0b1111111 : BitVec 7) ++ s.reg.vbk else sentinel), fun s => ?_,
      fun _ _ => rfl⟩
    simp only [exec, execRdVbk]
    split <;> rfl
  all_goals exact ⟨_, fun _ => rfl, fun _ _ => rfl⟩

/-- Settles O15: a read's result does not depend on the results before it. -/
theorem readsChangeNothing : Obligations.ReadsChangeNothing := by
  intro i s hi
  obtain ⟨read, hread, hresults⟩ := exec_read hi
  exact ⟨read s, fun rs => (hread _).trans (congrArg (fun r => Host.Outcome.next (State.emit _ r)) (hresults s rs))⟩

/-! ### Writes -/

/-- A store, field by field. -/
theorem storeVram_fields (s : State) (b : BitVec 1) (off : Nat) (d : Byte) : storeVram s b off d =
    (s.setVram0 (if b = 0 then s.vram0.write off d else s.vram0)).setVram1
      (if b = 0 then s.vram1 else s.vram1.write off d) := by
  unfold storeVram
  split_ifs <;> rfl

/-- R204: an invalidation that marks a tile. -/
theorem invalidate_of_tile {a : Addr} {s : State} (h : vbank s = 0 ∧ vramOffset a ≤ 0x17FF) :
    invalidate a s = s.setTiles s.cache (s.dirty.set (vramOffset a / 16) true (by omega)) true := dif_pos h

/-- R204: an invalidation that marks nothing. -/
theorem invalidate_of_not_tile {a : Addr} {s : State} (h : ¬ (vbank s = 0 ∧ vramOffset a ≤ 0x17FF)) :
    invalidate a s = s := dif_neg h

/-- An invalidation, field by field. -/
theorem invalidate_fields (a : Addr) (s : State) : invalidate a s = s.setTiles s.cache
    (if h : vbank s = 0 ∧ vramOffset a ≤ 0x17FF then s.dirty.set (vramOffset a / 16) true (by omega) else s.dirty)
    (s.anyDirty || decide (vbank s = 0 ∧ vramOffset a ≤ 0x17FF)) := by
  by_cases h : vbank s = 0 ∧ vramOffset a ≤ 0x17FF
  · rw [invalidate_of_tile h, dif_pos h, decide_eq_true h, Bool.or_true]
  · rw [invalidate_of_not_tile h, dif_neg h, decide_eq_false h, Bool.or_false]
    rfl

/-- R271, R273: a VRAM write, field by field. -/
theorem vramWrite_fields (a : Addr) (d : Byte) (s : State) : vramWrite a d s =
    if inVramWindow a = true then
      ((s.setVram0 (if vbank s = 0 then s.vram0.write (vramOffset a) d else s.vram0)).setVram1
        (if vbank s = 0 then s.vram1 else s.vram1.write (vramOffset a) d)).setTiles s.cache
        (if h : vbank s = 0 ∧ vramOffset a ≤ 0x17FF then s.dirty.set (vramOffset a / 16) true (by omega) else s.dirty)
        (s.anyDirty || decide (vbank s = 0 ∧ vramOffset a ≤ 0x17FF))
    else s := by
  rw [vramWrite, storeVram_fields, invalidate_fields]
  rfl

/-- The later of two equal stores changes nothing. -/
theorem storeVram_storeVram {s : State} (hmem : MemoriesCanonical s) (b : BitVec 1) (off : Nat) (d : Byte) :
    storeVram (storeVram s b off d) b off d = storeVram s b off d := by
  obtain ⟨h0, h1, _⟩ := hmem
  unfold storeVram
  split_ifs
  · exact congrArg s.setVram0 (Memory.write_write s.vram0 0 off d d h0)
  · exact congrArg s.setVram1 (Memory.write_write s.vram1 0 off d d h1)

/-- The later of two equal invalidations changes nothing. -/
theorem invalidate_invalidate (a : Addr) (s : State) : invalidate a (invalidate a s) = invalidate a s := by
  by_cases h : vbank s = 0 ∧ vramOffset a ≤ 0x17FF
  · have hagain : vbank (invalidate a s) = 0 ∧ vramOffset a ≤ 0x17FF := by
      rw [invalidate_eq]
      exact h
    rw [invalidate_of_tile hagain]
    simp only [invalidate_of_tile h, State.setTiles, Vector.set_set]
  · rw [invalidate_of_not_tile h, invalidate_of_not_tile h]

/-- A store reads and writes no flag. -/
theorem storeVram_invalidate (a : Addr) (s : State) (b : BitVec 1) (off : Nat) (d : Byte) :
    storeVram (invalidate a s) b off d = invalidate a (storeVram s b off d) := by
  rw [invalidate_fields, invalidate_fields, storeVram_fields, storeVram_fields]
  rfl

/-- R68: the later of two equal VRAM writes changes nothing. -/
theorem vramWrite_vramWrite (a : Addr) (d : Byte) {s : State} (hmem : MemoriesCanonical s) :
    vramWrite a d (vramWrite a d s) = vramWrite a d s := by
  by_cases hin : inVramWindow a = true
  · have hbank : vbank (vramWrite a d s) = vbank s := by
      rw [vramWrite_eq]
      rfl
    rw [vramWrite_in a d (vramWrite a d s) hin, hbank, vramWrite_in a d s hin, storeVram_invalidate,
      storeVram_storeVram hmem, invalidate_invalidate]
  · rw [vramWrite_out a d s (Bool.eq_false_of_not_eq_true hin), vramWrite_out a d s (Bool.eq_false_of_not_eq_true hin)]

/-- R68: the later of two equal OAM writes changes nothing. -/
theorem oamWrite_oamWrite (o d : Byte) {s : State} (hmem : MemoriesCanonical s) :
    oamWrite o d (oamWrite o d s) = oamWrite o d s := by
  obtain ⟨_, _, hoam⟩ := hmem
  unfold oamWrite
  split_ifs
  · exact congrArg s.setOam (Memory.write_write s.oam 0 o.toNat d d hoam)
  · rfl

/-- An LCDC write of the byte that LCDC holds changes nothing: there is no restart. -/
theorem exec_wrLcdc_same (s : State) : exec (.wrLcdc s.reg.lcdc) s = .next s :=
  exec_wrLcdc_store (Bool.eq_false_or_eq_true _)

/-- Settles O16: each write is the store of a value that depends on what is written only. -/
theorem writesAreIdempotent : Obligations.WritesAreIdempotent := by
  intro i s hmem hi
  cases i <;> cases hi
  case wrLcdc d =>
    rcases exec_wrLcdc_cases d s with h | h
    · exact ⟨_, h, rfl, exec_wrLcdc_same (s.setReg { s.reg with lcdc := d })⟩
    · exact ⟨_, h, rfl, exec_wrLcdc_same ((s.setReg { s.reg with lcdc := d }).setPos 0 s.cfg.lcdEnableCycleOffset.val)⟩
  case wrVbk d =>
    by_cases hext : s.cfg.extendedMode = true
    · exact ⟨s.setReg { s.reg with vbk := d.extractLsb' 0 1 }, if_pos hext, rfl, if_pos hext⟩
    · exact ⟨s, if_neg hext, rfl, if_neg hext⟩
  case vramWr a d =>
    refine ⟨vramWrite a d s, rfl, ?_, congrArg Host.Outcome.next (vramWrite_vramWrite a d hmem)⟩
    rw [vramWrite_eq]
    rfl
  case oamWr00To7F o d | oamWr80To9F o d =>
    refine ⟨oamWrite o d s, rfl, ?_, congrArg Host.Outcome.next (oamWrite_oamWrite o d hmem)⟩
    rw [oamWrite_eq]
    rfl
  all_goals exact ⟨_, rfl, rfl, rfl⟩

/-! ### Access timing (R279) -/

/-- A VRAM write neither reads nor writes the mode. -/
theorem vramWrite_setMode (a : Addr) (d : Byte) (s : State) (m : Mode) :
    vramWrite a d { s with mode := m } = { vramWrite a d s with mode := m } := by
  rw [vramWrite_fields, vramWrite_fields]
  by_cases hin : inVramWindow a = true
  · rw [if_pos hin, if_pos hin]
    rfl
  · rw [if_neg hin, if_neg hin]

/-- A VRAM write neither reads nor writes the line. -/
theorem vramWrite_setLy (a : Addr) (d : Byte) (s : State) (l : Nat) :
    vramWrite a d { s with ly := l } = { vramWrite a d s with ly := l } := by
  rw [vramWrite_fields, vramWrite_fields]
  by_cases hin : inVramWindow a = true
  · rw [if_pos hin, if_pos hin]
    rfl
  · rw [if_neg hin, if_neg hin]

/-- The mode changes no access but the STAT read. -/
theorem exec_setMode {i : Instr} (s : State) (m : Mode) (hi : i.isStep = false) (hstat : i ≠ .rdStat) :
    exec i { s with mode := m } = mapNext (fun t => { t with mode := m }) (exec i s) := by
  cases i <;> cases hi
  case rdStat => exact absurd rfl hstat
  case wrLcdc | rdVbk | wrVbk =>
    simp only [exec, execWrLcdc, execRdVbk, execWrVbk]
    split <;> rfl
  case vramWr a d => exact congrArg Host.Outcome.next (vramWrite_setMode a d s m)
  case oamWr00To7F | oamWr80To9F =>
    simp only [exec, execOamWr00To7F, execOamWr80To9F, oamWrite]
    split <;> rfl
  all_goals rfl

/-- The line changes no access but the STAT and LY reads and the LCDC write. -/
theorem exec_setLy {i : Instr} (s : State) (l : Nat) (hi : i.isStep = false) (hstat : i ≠ .rdStat) (hly : i ≠ .rdLy)
    (hlcdc : ∀ d, i ≠ .wrLcdc d) :
    exec i { s with ly := l } = mapNext (fun t => { t with ly := l }) (exec i s) := by
  cases i <;> cases hi
  case rdStat => exact absurd rfl hstat
  case rdLy => exact absurd rfl hly
  case wrLcdc d => exact absurd rfl (hlcdc d)
  case rdVbk | wrVbk =>
    simp only [exec, execRdVbk, execWrVbk]
    split <;> rfl
  case vramWr a d => exact congrArg Host.Outcome.next (vramWrite_setLy a d s l)
  case oamWr00To7F | oamWr80To9F =>
    simp only [exec, execOamWr00To7F, execOamWr80To9F, oamWrite]
    split <;> rfl
  all_goals rfl

/-- Settles O33: the two lemmas above. -/
theorem accessesIgnoreModeAndLine : Obligations.AccessesIgnoreModeAndLine := fun _ s m l hi hstat =>
  ⟨exec_setMode s m hi hstat, exec_setLy s l hi hstat⟩

end Sys2Proof.Machine
end

section
/-! PROOFS. What a `Step` keeps and where it leaves mode and position (41_mode_state_machine.md R176 to R187; 10_state.md
R26), up to the frame of 70224 cycles. -/

namespace Sys2Proof.Machine

/-! ### What a `Step` leaves alone -/

/-- A `Step` draws no row but the one it ends on (R241). -/
theorem stepped_other_row (n : Nat) (s : State) (y : Fin 144) (hy : y.val ≠ lyAfter n s) :
    (stepped n s).fb[y] = s.fb[y] := by
  unfold stepped
  split
  case isTrue h => exact rendered_other_row ⟨lyAfter n s, h.1⟩ y (moved n s) fun heq => hy (congrArg Fin.val heq)
  case isFalse => rfl

/-- A `Step` that does not enter H-blank with the display on draws nothing (R179, R221). -/
theorem samePicture_stepped {n : Nat} {s : State} (h : ¬ (enters .hBlank n s = true ∧ s.reg.lcdc.getLsbD 7 = true)) :
    SamePicture s (stepped n s) := by
  rcases not_and_or.mp h with hent | hoff
  · rw [stepped_of_not_enters n s (Bool.eq_false_of_not_eq_true hent)]
    exact ⟨rfl, rfl, rfl, rfl, rfl, rfl⟩
  · exact samePicture_stepped_of_display_off n (Bool.eq_false_of_not_eq_true hoff)

/-- A `Step` writes none of the renderer's inputs. -/
theorem sameInputs_stepped (n : Nat) (s : State) : SameInputs s (stepped n s) :=
  ⟨stepped_cfg n s, stepped_reg n s, stepped_vram0 n s, stepped_vram1 n s, stepped_oam n s, stepped_palBg n s,
    stepped_palObp0 n s, stepped_palObp1 n s⟩

/-- Settles O42: the lemmas above, at the one state a `Step` ends in. -/
theorem stepLeavesTheRestAlone : Obligations.StepLeavesTheRestAlone := fun s n f hn =>
  ⟨_, ifAfter n f s, entersVBlank n s, exec_step_ok n f s hn, sameInputs_stepped n s, stepped_inbox n s,
    congrArg (_ :: ·) (stepped_results n s), samePicture_stepped, fun y hy =>
      stepped_other_row n s y (by rwa [State.emit_ly, stepped_ly] at hy)⟩

/-! ### The mode follows the position (R26) -/

/-- The mode of a position: V-blank on lines 144 and up, the counter's on the lines below. -/
def modeAt (ly counter : Nat) : Mode := if 144 ≤ ly then .vBlank else modeOf counter

/-- R26 as one equation. -/
theorem modeFollows_iff (s : State) : ModeFollows s ↔ s.mode = modeAt s.ly s.counter := by
  unfold ModeFollows VBlankHeld modeAt
  by_cases h : 144 ≤ s.ly
  · simp [h, Nat.not_lt.mpr h]
  · simp [h, Nat.lt_of_not_le h]

/-- A `Step` from a state with V-blank held ends with the mode of its position. -/
theorem modeAfter_eq_modeAt {n : Nat} {s : State} (hheld : VBlankHeld s) :
    modeAfter n s = modeAt (lyAfter n s) (counterAfter n s) := by
  unfold modeAt
  split_ifs with hline
  · rw [modeAfter_of_not_visible hline]
    split_ifs with hent
    · rfl
    · by_cases hadv : 456 ≤ s.counter + n
      · obtain ⟨_, hly, _⟩ := after_advance n s hadv
        by_contra hmode
        exact hent ((entersVBlank_iff n s).mpr ⟨hadv, hly ▸ hline, hmode⟩)
      · obtain ⟨_, hly, _⟩ := after_same_line n s (Nat.lt_of_not_le hadv)
        exact hheld (hly ▸ hline)
  · exact modeAfter_of_visible (Nat.lt_of_not_le hline)

/-- A `Step` from a state with V-blank held ends with R26. -/
theorem modeFollows_stepped (n : Nat) {s : State} (hheld : VBlankHeld s) : ModeFollows (stepped n s) := by
  rw [modeFollows_iff, stepped_mode, stepped_ly, stepped_counter]
  exact modeAfter_eq_modeAt hheld

/-- Settles O44: `modeFollows_stepped` of the state a `Step` ends in. -/
theorem stepRestoresTheMode : Obligations.StepRestoresTheMode := fun s n f hheld hn =>
  ⟨_, exec_step_ok n f s hn, modeFollows_stepped n hheld⟩

/-! ### The position in the frame (R181, R182) -/

/-- R181: a `Step` keeps the position in range. -/
theorem positionOk_after {n : Nat} {s : State} (hpos : PositionOk s) (hn : n ≤ 456) :
    lyAfter n s ≤ 153 ∧ counterAfter n s ≤ 455 := by
  obtain ⟨hly, hcounter⟩ := hpos
  by_cases hadv : 456 ≤ s.counter + n
  · obtain ⟨_, hly', hcounter'⟩ := after_advance n s hadv
    omega
  · obtain ⟨_, hly', hcounter'⟩ := after_same_line n s (Nat.lt_of_not_le hadv)
    omega

/-- R182: a `Step` advances the position by its cycles. -/
theorem framePos_after {n : Nat} {s : State} (hpos : PositionOk s) (hn : n ≤ 456) :
    456 * lyAfter n s + counterAfter n s = (framePos s + n) % 70224 := by
  obtain ⟨hly, hcounter⟩ := hpos
  unfold framePos
  by_cases hadv : 456 ≤ s.counter + n
  · obtain ⟨_, hly', hcounter'⟩ := after_advance n s hadv
    omega
  · obtain ⟨_, hly', hcounter'⟩ := after_same_line n s (Nat.lt_of_not_le hadv)
    omega

/-- R181 of the state a `Step` ends in. -/
theorem positionOk_stepped {n : Nat} {s : State} (hpos : PositionOk s) (hn : n ≤ 456) : PositionOk (stepped n s) := by
  rw [PositionOk, stepped_ly, stepped_counter]
  exact positionOk_after hpos hn

/-- R182 of the state a `Step` ends in. -/
theorem framePos_stepped {n : Nat} {s : State} (hpos : PositionOk s) (hn : n ≤ 456) :
    framePos (stepped n s) = (framePos s + n) % 70224 := by
  rw [framePos, stepped_ly, stepped_counter]
  exact framePos_after hpos hn

/-- Settles O45: the two lemmas above. -/
theorem stepAdvancesTheFramePosition : Obligations.StepAdvancesTheFramePosition := fun s n f hpos hn =>
  ⟨_, exec_step_ok n f s hn, positionOk_stepped hpos hn, framePos_stepped hpos hn⟩

/-! ### No skipped mode (R183) -/

/-- R183 on one line: at most 81 cycles on, the mode of the counter is the same or the next. -/
theorem modeOf_add {c n : Nat} (hn : n ≤ 81) :
    modeOf (c + n) = modeOf c ∨ modeOf (c + n) ∈ (modeOf c).successors := by
  unfold modeOf
  split_ifs <;> simp [Mode.successors] <;> omega

/-- Settles O46: a short `Step` that advances the line goes from H-blank to OAMSCAN or V-blank, or leaves V-blank; one that
stays on its line is `modeOf_add`. -/
theorem shortStepsSkipNoMode : Obligations.ShortStepsSkipNoMode := by
  intro s n f hpos hmode hn
  refine ⟨_, exec_step_ok n f s (by omega), ?_⟩
  simp only [State.emit_ly, State.emit_mode, stepped_ly, stepped_mode]
  rw [modeAfter_eq_modeAt hmode.1, (modeFollows_iff s).mp hmode]
  obtain ⟨hly, hcounter⟩ := hpos
  by_cases hadv : 456 ≤ s.counter + n
  · obtain ⟨_, hly', hcounter'⟩ := after_advance n s hadv
    have hend : modeOf s.counter = .hBlank := modeOf_of_253_le (by omega)
    have hstart : modeOf (counterAfter n s) = .oamScan := modeOf_of_le_80 (by omega)
    simp only [modeAt, hend, hstart]
    split_ifs <;> simp [Mode.successors]
  · obtain ⟨_, hly', hcounter'⟩ := after_same_line n s (Nat.lt_of_not_le hadv)
    rw [hly', hcounter']
    refine ⟨?_, fun h => absurd rfl h⟩
    unfold modeAt
    split_ifs
    · exact .inl rfl
    · exact modeOf_add hn

/-! ### The frame (R187) -/

/-- R175: the counter selects no V-blank. -/
theorem modeOf_ne_vBlank (c : Nat) : modeOf c ≠ .vBlank := by
  unfold modeOf
  split_ifs <;> nofun

/-- R173 under R26: V-blank is entered by the advance from line 143. -/
theorem entersVBlank_iff_of_modeFollows {n : Nat} {s : State} (hpos : PositionOk s) (hmode : ModeFollows s) :
    entersVBlank n s = true ↔ 456 ≤ s.counter + n ∧ s.ly = 143 := by
  obtain ⟨hly, _⟩ := hpos
  have hvisible : s.mode ≠ .vBlank ↔ s.ly < 144 :=
    ⟨fun hne => Nat.lt_of_not_le fun h => hne (hmode.1 h), fun h => hmode.2 h ▸ modeOf_ne_vBlank s.counter⟩
  rw [entersVBlank_iff, hvisible]
  omega

/-- A `Step` signals a frame exactly when it takes the position past the start of line 144, 4560 cycles before the frame's
end. -/
theorem entersVBlank_toNat {n : Nat} {s : State} (hpos : PositionOk s) (hmode : ModeFollows s) (hn : n ≤ 456) :
    (entersVBlank n s).toNat + (framePos s + 4560) / 70224 = (framePos s + n + 4560) / 70224 := by
  have hent := entersVBlank_iff_of_modeFollows (n := n) hpos hmode
  obtain ⟨hly, hcounter⟩ := hpos
  unfold framePos
  cases h : entersVBlank n s
  · have hno : ¬ (456 ≤ s.counter + n ∧ s.ly = 143) := fun hc => Bool.false_ne_true (h.symm.trans (hent.mpr hc))
    simp only [Bool.toNat_false]
    omega
  · obtain ⟨hadv, hline⟩ := hent.mp h
    simp only [Bool.toNat_true]
    omega

/-- R180: a `Step`'s result counts as a frame if it signals one. -/
theorem framesDone_stepped (f : Byte) (fd : Bool) (rs : List Result) :
    framesDone (.stepped f fd :: rs) = framesDone rs + fd.toNat := by
  cases fd <;> rfl

/-- The host's run after a line `STEP n` within the bound. -/
def HostRun.afterStep (h : HostRun) (n : Nat) : HostRun :=
  { st := (stepped n (h.st.setInbox [])).emit (.stepped (ifAfter n h.ifByte h.st) (entersVBlank n h.st))
    ifByte := ifAfter n h.ifByte h.st
    frameDone := entersVBlank n h.st }

/-- A line `STEP n` within the bound. -/
theorem runLine_step (h : HostRun) {n : Nat} (hn : n ≤ 456) : runLine h (.step n) = .next (h.afterStep n) := by
  rw [runLine, ProgramLine.transaction, runOperation_eq, decode_step_of_le h.ifByte hn, exec_step_ok n h.ifByte _ hn]
  rfl

/-- What `k` cycles of STEP lines leave of a run, from a position in range and R26: both hold again, the position has moved
by `k`, a frame has been signalled for every start of line 144 passed, and the V-blank request of such a frame or of before
is set. -/
structure Elapsed (k : Nat) (h h' : HostRun) : Prop where
  position : PositionOk h'.st
  mode : ModeFollows h'.st
  moved : framePos h'.st = (framePos h.st + k) % 70224
  frames : framesDone h'.st.results + (framePos h.st + 4560) / 70224 =
    framesDone h.st.results + (framePos h.st + k + 4560) / 70224
  request : h.ifByte.getLsbD 0 = true ∨ framesDone h.st.results < framesDone h'.st.results → h'.ifByte.getLsbD 0 = true

/-- No cycles. -/
theorem Elapsed.zero {h : HostRun} (hpos : PositionOk h.st) (hmode : ModeFollows h.st) : Elapsed 0 h h where
  position := hpos
  mode := hmode
  moved := by
    obtain ⟨hly, hcounter⟩ := hpos
    unfold framePos
    omega
  frames := rfl
  request := fun h => h.elim id fun hlt => absurd hlt (Nat.lt_irrefl _)

/-- One STEP line. -/
theorem elapsed_afterStep {n : Nat} {h : HostRun} (hpos : PositionOk h.st) (hmode : ModeFollows h.st) (hn : n ≤ 456) :
    Elapsed n h (h.afterStep n) where
  position := positionOk_stepped (s := h.st.setInbox []) hpos hn
  mode := modeFollows_stepped n (s := h.st.setInbox []) hmode.1
  moved := framePos_stepped (s := h.st.setInbox []) hpos hn
  frames := by
    have hframe := entersVBlank_toNat hpos hmode hn
    simp only [HostRun.afterStep, State.emit_results, stepped_results, State.setInbox_results, framesDone_stepped]
    omega
  request := by
    simp only [HostRun.afterStep, State.emit_results, stepped_results, State.setInbox_results, framesDone_stepped,
      ifAfter_getLsbD, raisesVBlank]
    rintro (hset | hframe)
    · simp [hset]
    · cases hent : entersVBlank n h.st
      · simp [hent] at hframe
      · simp

/-- Cycles on top of cycles. -/
theorem Elapsed.trans {j k : Nat} {h h1 h2 : HostRun} (e1 : Elapsed j h h1) (e2 : Elapsed k h1 h2) :
    Elapsed (j + k) h h2 where
  position := e2.position
  mode := e2.mode
  moved := by
    have hm1 := e1.moved
    have hm2 := e2.moved
    omega
  frames := by
    have hm1 := e1.moved
    have hf1 := e1.frames
    have hf2 := e2.frames
    omega
  request := fun hor => by
    by_cases hlt : framesDone h1.st.results < framesDone h2.st.results
    · exact e2.request (.inr hlt)
    · exact e2.request (.inl (e1.request (hor.imp_right fun h => by omega)))

/-- STEP lines within the bound run to their end, and their cycles elapse. -/
theorem runProgram_steps (ns : List Nat) {h : HostRun} (hpos : PositionOk h.st) (hmode : ModeFollows h.st)
    (hns : ∀ n ∈ ns, n ≤ 456) : ∃ h', runProgram h (ns.map ProgramLine.step) = .next h' ∧ Elapsed ns.sum h h' := by
  induction ns generalizing h with
  | nil => exact ⟨h, rfl, .zero hpos hmode⟩
  | cons n ns ih =>
    obtain ⟨hn, hns⟩ := List.forall_mem_cons.mp hns
    have hstep := elapsed_afterStep hpos hmode hn
    obtain ⟨h', hrun, hrest⟩ := ih hstep.position hstep.mode hns
    refine ⟨h', (runProgram_cons_next (runLine_step h hn) _).trans hrun, ?_⟩
    rw [List.sum_cons]
    exact hstep.trans hrest

/-- Settles O47: after 70224 cycles the position is the same, so the mode is, and line 144 has begun once. -/
theorem aFrameOfStepsReturnsToItsLine : Obligations.AFrameOfStepsReturnsToItsLine := by
  intro h ns hpos hmode hns hsum
  obtain ⟨h', hrun, hpos', hmode', hmoved, hframes, hrequest⟩ := runProgram_steps ns hpos hmode hns
  rw [hsum] at hmoved hframes
  have hplace : h'.st.ly = h.st.ly ∧ h'.st.counter = h.st.counter := by
    obtain ⟨_, hcounter⟩ := hpos
    obtain ⟨_, hcounter'⟩ := hpos'
    unfold framePos at hmoved
    omega
  obtain ⟨hly, hcounter⟩ := hplace
  have hone : framesDone h'.st.results = framesDone h.st.results + 1 := by omega
  refine ⟨h', hrun, hly, hcounter, ?_, hone, hrequest (.inr (by omega))⟩
  rw [(modeFollows_iff _).mp hmode', (modeFollows_iff _).mp hmode, hly, hcounter]

end Sys2Proof.Machine
end

section
/-! PROOFS. The rendered line (43_scanline_renderer.md R222 to R240) is the described one: from a coherent cache the refresh
leaves every tile decoded from bank 0 (42_tile_cache.md R207), and the layers, seen at one column, are the description. -/

namespace Sys2Proof.Machine

/-! ### The scratch and the disabled background (R223, R224) -/

/-- The sprite layer leaves the priorities alone. -/
theorem lineDrawn_prio (s : State) (line : Fin 144) : (lineDrawn s line).prio = (tilesDrawn s line).prio := by
  unfold lineDrawn
  split_ifs
  · exact (drawEntry_fold s line.val (List.finRange 40) (tilesDrawn s line) 0).2.2
  · rfl

/-- R228: where the window is off or does not reach, it does not draw. -/
theorem not_window_of_outside {s : State} {line : Nat} {x : Fin 160}
    (hout : s.reg.lcdc.getLsbD 5 = false ∨ line < s.reg.wy.toNat ∨ x.val + 7 < s.reg.wx.toNat) :
    ¬ (s.reg.lcdc.getLsbD 5 = true ∧ windowCovers s line x = true) := by
  rintro ⟨hon, hcovers⟩
  obtain ⟨hwy, hwx⟩ := (windowCovers_iff s line x).mp hcovers
  rcases hout with hoff | hout
  · exact Bool.false_ne_true (hoff.symm.trans hon)
  · omega

/-- Settles O55: neither tile layer draws the column, and with the sprites off no sprite does. -/
theorem disabledBackgroundKeepsThePixels : Obligations.DisabledBackgroundKeepsThePixels := by
  refine fun s line hbg => ⟨lineDrawn s line, composeLine_ok s line, fun x hout => ?_⟩
  obtain ⟨hrow, hprio, hdone⟩ := tilesDrawn_at s line x
  have hbg' : ¬ bgEn s = true := Bool.not_eq_true _ ▸ hbg
  have hwin : ¬ (winEn s = true ∧ windowCovers s line.val x = true) := not_window_of_outside hout
  rw [if_neg hwin, if_neg hbg'] at hrow hprio
  refine ⟨(congrArg (·[x]) (lineDrawn_prio s line)).trans hprio, fun hobj => ?_⟩
  have hline : lineDrawn s line = tilesDrawn s line := if_neg (Bool.not_eq_true _ ▸ hobj)
  rw [hline]
  exact ⟨hrow, hdone⟩

/-! ### The refreshed cache (R205, R207) -/

/-- Every tile is decoded from the current bytes of bank 0. -/
def AllDecoded (s : State) : Prop := ∀ t : Fin 384, s.cache[t] = decodeTile s.vram0 t

/-- R207: the refresh leaves every tile decoded. -/
theorem allDecoded_refresh {s : State} (hcache : CacheCoherent s) (hflags : FlagsCoherent s) : AllDecoded (refresh s) := by
  intro t
  rw [refresh_cache, refresh_vram0]
  split_ifs with h
  · rfl
  · refine hcache t (Bool.eq_false_of_not_eq_true fun hdirty => ?_)
    cases hany : s.anyDirty
    · rw [hflags hany t] at hdirty
      cases hdirty
    · exact h ⟨hany, hdirty⟩

/-- R207: a map's pixel from a decoded cache. -/
theorem mapCached_of_allDecoded {s : State} (h : AllDecoded s) (base y x : Nat) :
    mapCached s base y x = mapIndex s base y x :=
  congrArg (fun tile : Tile => tile[within8 y][within8 x]) (h ⟨_, bgTile_lt (mapByte s base y x) (tileSel s)⟩)

/-- R207: a sprite's pixel from a decoded cache. -/
theorem spriteCached_of_allDecoded {s : State} (h : AllDecoded s) (line : Nat) (sp : Sprite) (c : Fin 8) :
    spriteCached s line sp c = spriteIndex s line sp c :=
  congrArg (fun tile : Tile => tile[within8 (sp.row (spriteHeight s) line)][sp.column c])
    (h ⟨_, tileOf_lt sp (spriteHeight s) (sp.row (spriteHeight s) line)⟩)

/-! ### The tile layers -/

section
variable {s : State} {line : Nat} {x : Fin 160}

/-- R230: where the window is on and covers, the tile layer is the window. -/
theorem tileIndex_of_window (hon : s.reg.lcdc.getLsbD 5 = true) (hcovers : windowCovers s line x = true) :
    tileIndex s line x = some (winIndex s line x.val) := if_pos (by rw [hon, hcovers]; rfl)

/-- R226: elsewhere it is the background, where that is on. -/
theorem tileIndex_of_background (hwin : ¬ (s.reg.lcdc.getLsbD 5 = true ∧ windowCovers s line x = true))
    (hon : s.reg.lcdc.getLsbD 0 = true) : tileIndex s line x = some (bgIndex s line x.val) := by
  rw [tileIndex, if_neg (by rwa [Bool.and_eq_true]), if_pos hon]

/-- R224: and else nothing. -/
theorem tileIndex_of_neither (hwin : ¬ (s.reg.lcdc.getLsbD 5 = true ∧ windowCovers s line x = true))
    (hoff : ¬ s.reg.lcdc.getLsbD 0 = true) : tileIndex s line x = none := by
  rw [tileIndex, if_neg (by rwa [Bool.and_eq_true]), if_neg hoff]

end

/-- The tile layer's colour at a column, over what was there. -/
def tileColour (s : State) (line : Fin 144) (x : Fin 160) : Colour :=
  match tileIndex s line.val x with
  | some ci => paletteColour s.palBg ci
  | none => s.fb[line][x]

/-- From a decoded cache the tile layers draw the tile layer described. -/
theorem tilesDrawn_described {s : State} (h : AllDecoded s) (line : Fin 144) (x : Fin 160) :
    (tilesDrawn s line).row[x] = tileColour s line x ∧ (tilesDrawn s line).prio[x] = tilePrio s line.val x := by
  obtain ⟨hrow, hprio, _⟩ := tilesDrawn_at s line x
  simp only [mapCached_of_allDecoded h] at hrow hprio
  rw [hrow, hprio, tilePrio, tileColour]
  by_cases hwin : winEn s = true ∧ windowCovers s line.val x = true
  · rw [if_pos hwin, if_pos hwin, tileIndex_of_window hwin.1 hwin.2]
    exact ⟨rfl, rfl⟩
  · rw [if_neg hwin, if_neg hwin]
    by_cases hbg : bgEn s = true
    · rw [if_pos hbg, if_pos hbg, tileIndex_of_background hwin hbg]
      exact ⟨rfl, rfl⟩
    · rw [if_neg hbg, if_neg hbg, tileIndex_of_neither hwin hbg]
      exact ⟨rfl, rfl⟩

/-- R243: a priority is a raw index. -/
theorem tilePrio_lt (s : State) (line : Nat) (x : Fin 160) : tilePrio s line x < 4 := by
  unfold tilePrio
  split
  · exact BitVec.isLt _
  · decide

/-! ### The sprite layer -/

/-- R238 test 1: which of its columns a sprite has at a screen column. -/
theorem columnAt_eq_some_iff (sp : Sprite) (x : Fin 160) (c : Fin 8) :
    sp.columnAt x = some c ↔ sp.left + (c.val : Int) = (x.val : Int) := by
  have hc := c.isLt
  unfold Sprite.columnAt within8
  split_ifs with h
  · rw [Option.some.injEq, Fin.ext_iff]
    simp only
    omega
  · simp only [false_iff]
    omega

/-- A column of a sprite is neither behind a non-zero priority nor transparent (R238 tests 3 and 4). -/
def columnShows (s : State) (line : Nat) (sp : Sprite) (prio : Nat) (c : Fin 8) : Bool :=
  !(sp.behind && decide (prio ≠ 0)) && decide (spriteIndex s line sp c ≠ 0)

/-- From a decoded cache, the tests of R238 on a raw priority: the sprite has this column there, and it shows. -/
theorem showsAt_described {s : State} (h : AllDecoded s) {prio : Nat} (hprio : prio < 4) (line : Nat) (sp : Sprite)
    (c : Fin 8) (x : Fin 160) :
    showsAt s line sp prio c x = (decide (sp.columnAt x = some c) && columnShows s line sp prio c) := by
  simp only [showsAt, columnShows, columnAt_eq_some_iff, spriteCached_of_allDecoded h, hprio, decide_true, Bool.and_true,
    Bool.and_assoc]

/-- A search finds the only element that it can. -/
theorem find?_eq_some_of_unique {α : Type} {p : α → Bool} {l : List α} {a : α} (ha : a ∈ l) (hp : p a = true)
    (hunique : ∀ b, p b = true → b = a) : l.find? p = some a := by
  cases h : l.find? p with
  | none => exact absurd hp (List.find?_eq_none.mp h a ha)
  | some b => rw [hunique b (List.find?_some h)]

/-- At most one column of a sprite is at a screen column, so the first that shows is that one, if it shows. -/
theorem find?_showsAt {s : State} (h : AllDecoded s) {prio : Nat} (hprio : prio < 4) (line : Nat) (sp : Sprite)
    (x : Fin 160) : (List.finRange 8).find? (fun c => showsAt s line sp prio c x) =
      (sp.columnAt x).filter (columnShows s line sp prio) := by
  simp only [showsAt_described h hprio]
  cases hcol : sp.columnAt x with
  | none => simp
  | some c =>
    by_cases hshows : columnShows s line sp prio c = true
    · rw [Option.filter_some_pos hshows]
      refine find?_eq_some_of_unique (List.mem_finRange c) (by simp [hshows]) fun b hb => ?_
      obtain ⟨hb, _⟩ := Bool.and_eq_true_iff.mp hb
      exact (Option.some.inj (of_decide_eq_true hb)).symm
    · rw [Option.filter_some_neg (Bool.eq_false_of_not_eq_true hshows)]
      simpa using hshows

/-- From a decoded cache an entry shows over the tile layer as described. -/
theorem entryShowsOn_described {s : State} (h : AllDecoded s) (line : Nat) (x : Fin 160) :
    entryShowsOn s line (tilePrio s line x) x = spriteShows s line x := by
  funext k
  have hany : ∀ sp, entryShows s line sp (tilePrio s line x) (List.finRange 8) x =
      ((sp.columnAt x).filter (columnShows s line sp (tilePrio s line x))).isSome := fun sp => by
    rw [← find?_showsAt h (tilePrio_lt s line x), Bool.eq_iff_iff, entryShows, List.any_eq_true, List.find?_isSome]
  rw [entryShowsOn, hany, spriteShows]
  cases (spriteAt s.oam k.val).columnAt x with
  | none => rfl
  | some c =>
    refine congrArg (_ && ·) (?_ : ((some c).filter _).isSome = columnShows s line _ _ c)
    cases hshows : columnShows s line (spriteAt s.oam k.val) (tilePrio s line x) c <;> simp [Option.filter, hshows]

/-- From a decoded cache an entry that shows draws its colour as described. -/
theorem entryColour_described {s : State} (h : AllDecoded s) {line : Nat} {x : Fin 160} {k : Fin 40}
    (hshows : spriteShows s line x k = true) (dflt : Colour) :
    entryColour s line (tilePrio s line x) x k dflt = spriteColour s line x k := by
  rw [spriteShows] at hshows
  rw [entryColour, find?_showsAt h (tilePrio_lt s line x), spriteColour]
  cases hcol : (spriteAt s.oam k.val).columnAt x with
  | none => simp [hcol] at hshows
  | some c =>
    rw [hcol] at hshows
    obtain ⟨_, hcolumn⟩ := Bool.and_eq_true_iff.mp hshows
    have hcolumn : columnShows s line (spriteAt s.oam k.val) (tilePrio s line x) c = true := hcolumn
    rw [Option.filter_some_pos hcolumn]
    simp only [spriteCached_of_allDecoded h]

/-- From a decoded cache the three layers draw the described line. -/
theorem lineDrawn_described {s : State} (h : AllDecoded s) (line : Fin 144) (x : Fin 160) :
    (lineDrawn s line).row[x] = pixelColour s line x ∧ (lineDrawn s line).prio[x] = tilePrio s line.val x ∧
      (lineDrawn s line).done[x] = (winningSprite s line.val x).isSome := by
  obtain ⟨hrow, hprio⟩ := tilesDrawn_described h line x
  obtain ⟨_, _, hdone⟩ := tilesDrawn_at s line x
  obtain ⟨orow, odone, oprio⟩ := drawEntry_fold s line.val (List.finRange 40) (tilesDrawn s line) x
  simp only [hrow, hprio, hdone, entryShowsOn_described h, Bool.false_eq_true, if_false, Bool.false_or] at orow odone
  unfold lineDrawn pixelColour winningSprite objEn
  by_cases hobj : s.reg.lcdc.getLsbD 1 = true
  · rw [if_pos hobj, if_pos hobj]
    unfold objDrawn
    rw [orow, odone, oprio]
    refine ⟨?_, hprio, ?_⟩
    · cases hfind : (List.finRange 40).find? (spriteShows s line.val x) with
      | none => rfl
      | some k => exact entryColour_described h (List.find?_some hfind) _
    · rw [Bool.eq_iff_iff, List.any_eq_true, List.find?_isSome]
  · rw [if_neg hobj, if_neg hobj]
    exact ⟨hrow, hprio, hdone⟩

/-! ### The rendered line -/

/-- The description reads nothing a `Step` moves and nothing a refresh writes. -/
theorem described_refresh_moved (n : Nat) (s : State) (line : Fin 144) (x : Fin 160) :
    pixelColour (refresh (moved n s)) line x = pixelColour s line x ∧
      tilePrio (refresh (moved n s)) line.val x = tilePrio s line.val x ∧
      winningSprite (refresh (moved n s)) line.val x = winningSprite s line.val x := by
  rw [refresh_eq]
  exact ⟨rfl, rfl, rfl⟩

/-- A `Step` that enters H-blank with the display on draws the described line. -/
theorem stepped_described {n : Nat} {s : State} {line : Fin 144} (hcache : CacheCoherent s) (hflags : FlagsCoherent s)
    (hon : s.reg.lcdc.getLsbD 7 = true) (hline : lyAfter n s = line.val) (hent : enters .hBlank n s = true)
    (x : Fin 160) :
    (stepped n s).fb[line][x] = pixelColour s line x ∧ (stepped n s).prio[x] = tilePrio s line.val x ∧
      (stepped n s).spriteDone[x] = (winningSprite s line.val x).isSome := by
  obtain ⟨hpixel, hprio, hwinner⟩ := described_refresh_moved n s line x
  obtain ⟨hrow', hprio', hdone'⟩ :=
    lineDrawn_described (allDecoded_refresh (s := moved n s) hcache hflags) line x
  rw [stepped_of_enters n s line hline hent, rendered_on line (s := moved n s) hon, ← hpixel, ← hprio, ← hwinner]
  refine ⟨?_, hprio', hdone'⟩
  simpa using hrow'

/-- Settles O59: `stepped_described`, with what the tile layer and the winning sprite are in each layer's region. -/
theorem renderedLineIsTheDescribedLine : Obligations.RenderedLineIsTheDescribedLine := by
  intro s n f line hcache hflags hon hn hline hent
  refine ⟨_, exec_step_ok n f s hn, fun x => ?_⟩
  obtain ⟨hpixel, hprio, hdone⟩ := stepped_described hcache hflags hon hline hent x
  have hindex : ∀ ci, tileIndex s line.val x = some ci → (stepped n s).prio[x] = ci.toNat := fun ci h => by
    rw [hprio, tilePrio, h]
  refine ⟨hpixel, hprio, hdone, fun hwin hwy hwx => ?_, fun hbg hout => ?_, fun hobj k hk => ?_⟩
  · exact hindex _ (tileIndex_of_window hwin ((windowCovers_iff s line.val x).mpr ⟨hwy, hwx⟩))
  · exact hindex _ (tileIndex_of_background (not_window_of_outside hout) hbg)
  · refine hdone.trans ?_
    rw [winningSprite, if_pos hobj, List.find?_isSome]
    exact ⟨k, List.mem_finRange k, hk⟩

end Sys2Proof.Machine
end

section
/-! PROOFS. What holds between operations (10_state.md): the reset state (R36), the invariant it meets and every step keeps,
and that the tile cache and the scratch are unobservable (R35, 42_tile_cache.md R207). -/

namespace Sys2Proof.Machine

/-! ### Reset (R36) -/

/-- Settles O11: the fields are the definition's; a vector of equal entries has that entry at every index. -/
theorem resetLeavesTheTable : Obligations.ResetLeavesTheTable := by
  refine fun c => ⟨rfl, rfl, rfl, rfl, rfl, rfl, rfl, rfl, rfl, rfl, rfl, rfl, rfl, rfl, rfl, fun a => ⟨rfl, rfl, rfl⟩,
    fun t r k => ?cache, fun t => ?dirty, rfl, fun k => ?palettes, fun y x => ?pixels, fun x => ?scratch, rfl, rfl, rfl, rfl⟩
  case cache => simp [State.resetWith]
  case dirty => simp [State.resetWith]
  case palettes =>
    obtain ⟨_, _, hzero, _⟩ := paletteSlotsAreBaseColours c.baseColours
    exact ⟨hzero k, hzero k, hzero k⟩
  case pixels => simp [State.resetWith, Colour.zero]
  case scratch => simp [State.resetWith]

/-- R201: an empty bank decodes to tiles of index 0. -/
theorem decodeTile_nil (t : Nat) : decodeTile [] t = Vector.replicate 8 (Vector.replicate 8 0) := by
  have hpixel : ∀ c : Fin 8, decodePixel 0x00 0x00 c = 0 := by decide
  ext r hr c hc : 2
  simpa [decodeTile, Memory.read, Memory.unlisted] using hpixel ⟨c, hc⟩

/-- Settles O12: the blank tiles in the cache are what the empty bank 0 decodes to. -/
theorem resetMeetsTheInvariant : Obligations.ResetMeetsTheInvariant := fun c => by
  refine ⟨⟨⟨Nat.zero_le _, Nat.zero_le _⟩, fun h => absurd h (Nat.not_le.mpr (by decide : 0 < 144)),
    fun t _ => ?cache, fun _ t => ?flags,
    ⟨rfl, rfl, rfl⟩, ⟨rfl, rfl, rfl⟩, fun x => ?prio, fun _ => ⟨rfl, rfl⟩⟩, (modeFollows_iff _).mpr rfl⟩
  case cache =>
    rw [show (State.resetWith c).vram0 = [] from rfl, decodeTile_nil]
    simp [State.resetWith]
  case flags => simp [State.resetWith]
  case prio => simp [State.resetWith]

/-! ### Coherence of the tile cache (R31) -/

/-- A tile is decoded from its sixteen bytes. -/
theorem decodeTile_congr {m m' : Memory} {t : Nat} (h : ∀ k < 16, m.read (16 * t + k) = m'.read (16 * t + k)) :
    decodeTile m t = decodeTile m' t := by
  refine congrArg Vector.ofFn (funext fun r => ?_)
  rw [h (2 * r.val) (by omega), Nat.add_assoc, h (2 * r.val + 1) (by omega)]

/-- A VRAM write keeps the coherence: the tile whose byte changes is marked. -/
theorem coherent_vramWrite (a : Addr) (d : Byte) {s : State} (hmem : MemoriesCanonical s) (hcache : CacheCoherent s)
    (hflags : FlagsCoherent s) : CacheCoherent (vramWrite a d s) ∧ FlagsCoherent (vramWrite a d s) := by
  by_cases hin : inVramWindow a = true
  · refine ⟨fun t hclean => ?_, fun hany t => ?_⟩
    · have hmark := mt (vramWrite_dirty d s hin t).mpr (Bool.not_eq_true _ ▸ hclean)
      obtain ⟨hclean, hother⟩ := not_or.mp hmark
      have hsame : ∀ k < 16, (vramWrite a d s).vram0.read (16 * t.val + k) = s.vram0.read (16 * t.val + k) := fun k hk => by
        refine (vramWrite_vramByte d hin hmem 0 (16 * t.val + k)).trans (if_neg fun ⟨hbank, hoff⟩ => hother ?_)
        exact ⟨hbank.symm, by omega, by omega⟩
      rw [decodeTile_congr hsame, vramWrite_eq]
      exact hcache t (Bool.eq_false_of_not_eq_true hclean)
    · refine Bool.eq_false_of_not_eq_true fun hdirty => ?_
      refine Bool.false_ne_true (hany.symm.trans ((vramWrite_anyDirty d s hin).mpr ?_))
      rcases (vramWrite_dirty d s hin t).mp hdirty with hold | ⟨hbank, htile, _⟩
      · exact .inl (Bool.eq_true_of_not_eq_false fun h => Bool.false_ne_true ((hflags h t).symm.trans hold))
      · exact .inr ⟨hbank, htile⟩
  · rw [vramWrite_out a d s (Bool.eq_false_of_not_eq_true hin)]
    exact ⟨hcache, hflags⟩

/-- A render keeps the coherence: it refreshes the cache. -/
theorem coherent_rendered (line : Fin 144) {s : State} (hcache : CacheCoherent s) (hflags : FlagsCoherent s) :
    CacheCoherent (rendered line s) ∧ FlagsCoherent (rendered line s) := by
  cases hon : lcdEn s
  · rw [rendered_off line s hon]
    exact ⟨hcache, hflags⟩
  · rw [rendered_on line hon]
    refine ⟨fun t _ => allDecoded_refresh hcache hflags t, fun _ t => ?_⟩
    refine (refresh_dirty s t).trans ?_
    split_ifs with hany
    · rfl
    · exact hflags (Bool.eq_false_of_not_eq_true hany) t

/-- A `Step` keeps the coherence. -/
theorem coherent_stepped (n : Nat) {s : State} (hcache : CacheCoherent s) (hflags : FlagsCoherent s) :
    CacheCoherent (stepped n s) ∧ FlagsCoherent (stepped n s) := by
  unfold stepped
  split
  · exact coherent_rendered _ hcache hflags
  · exact ⟨hcache, hflags⟩

/-- Every operation keeps the coherence. -/
theorem Effect.coherent {i : Instr} {s t : State} (h : Effect i s t) (hmem : MemoriesCanonical s)
    (hcache : CacheCoherent s) (hflags : FlagsCoherent s) : CacheCoherent t ∧ FlagsCoherent t := by
  cases h with
  | vram a d => exact coherent_vramWrite a d hmem hcache hflags
  | oam o d =>
    rw [oamWrite_eq]
    exact ⟨hcache, hflags⟩
  | step n f => exact coherent_stepped n hcache hflags
  | byte | frame | ignored | store | restart | bgp | obp0 | obp1 => exact ⟨hcache, hflags⟩

/-! ### The other clauses of the invariant -/

/-- A store keeps the memories canonical. -/
theorem memoriesCanonical_storeVram {s : State} (hmem : MemoriesCanonical s) (b : BitVec 1) {off : Nat} (d : Byte)
    (hoff : off < 8192) : MemoriesCanonical (storeVram s b off d) := by
  obtain ⟨h0, h1, hoam⟩ := hmem
  unfold storeVram
  split_ifs
  · exact ⟨Memory.wf_write s.vram0 off d h0 hoff, h1, hoam⟩
  · exact ⟨h0, Memory.wf_write s.vram1 off d h1 hoff, hoam⟩

/-- A VRAM write keeps the memories canonical. -/
theorem memoriesCanonical_vramWrite (a : Addr) (d : Byte) {s : State} (hmem : MemoriesCanonical s) :
    MemoriesCanonical (vramWrite a d s) := by
  by_cases hin : inVramWindow a = true
  · rw [vramWrite_in a d s hin, invalidate_eq]
    exact memoriesCanonical_storeVram hmem (vbank s) d (vramOffset_lt a hin)
  · rwa [vramWrite_out a d s (Bool.eq_false_of_not_eq_true hin)]

/-- An OAM write keeps the memories canonical. -/
theorem memoriesCanonical_oamWrite (o d : Byte) {s : State} (hmem : MemoriesCanonical s) :
    MemoriesCanonical (oamWrite o d s) := by
  obtain ⟨h0, h1, hoam⟩ := hmem
  unfold oamWrite
  split_ifs with ho
  · exact ⟨h0, h1, Memory.wf_write s.oam o.toNat d hoam (Nat.lt_succ_of_le ho)⟩
  · exact ⟨h0, h1, hoam⟩

/-- R28: outside extended mode a VRAM write goes to bank 0. -/
theorem secondBankAbsent_vramWrite (a : Addr) (d : Byte) {s : State} (h : SecondBankAbsent s) :
    SecondBankAbsent (vramWrite a d s) := by
  rw [vramWrite_fields]
  by_cases hin : inVramWindow a = true
  · rw [if_pos hin]
    intro hext
    have hbank : vbank s = 0 := if_neg (Bool.not_eq_true _ ▸ hext)
    obtain ⟨hvram1, hvbk⟩ := h hext
    exact ⟨(if_pos hbank).trans hvram1, hvbk⟩
  · rwa [if_neg hin]

/-- R243: a render leaves raw indices in the priority buffer. -/
theorem prioRaw_rendered (line : Fin 144) {s : State} (hprio : PrioRaw s) : PrioRaw (rendered line s) := by
  cases hon : lcdEn s
  · rwa [rendered_off line s hon]
  · intro x
    rw [rendered_on line hon]
    show (lineDrawn (refresh s) line).prio[x] ≤ 3
    rw [lineDrawn_prio, (tilesDrawn_at (refresh s) line x).2.1]
    split_ifs
    · exact Nat.le_of_lt_succ (BitVec.isLt _)
    · exact Nat.le_of_lt_succ (BitVec.isLt _)
    · exact Nat.zero_le 3

/-- A `Step` keeps raw indices in the priority buffer. -/
theorem prioRaw_stepped (n : Nat) {s : State} (hprio : PrioRaw s) : PrioRaw (stepped n s) := by
  unfold stepped
  split
  · exact prioRaw_rendered _ hprio
  · exact hprio

/-- A `Step` keeps the invariant. -/
theorem inv_stepped {n : Nat} {s : State} (h : Inv s) (hn : n ≤ 456) : Inv (stepped n s) where
  position := positionOk_stepped h.position hn
  vblankHeld := (modeFollows_stepped n h.vblankHeld).1
  cache := (coherent_stepped n h.cache h.flags).1
  flags := (coherent_stepped n h.cache h.flags).2
  palettes := by simpa only [PalettesCompiled, stepped_palBg, stepped_palObp0, stepped_palObp1, stepped_cfg, stepped_reg]
    using h.palettes
  memories := by simpa only [MemoriesCanonical, stepped_vram0, stepped_vram1, stepped_oam] using h.memories
  prio := prioRaw_stepped n h.prio
  secondBank := by simpa only [SecondBankAbsent, stepped_cfg, stepped_vram1, stepped_reg] using h.secondBank

/-- A VRAM write keeps the invariant. -/
theorem inv_vramWrite (a : Addr) (d : Byte) {s : State} (h : Inv s) : Inv (vramWrite a d s) where
  position := by rw [vramWrite_eq]; exact h.position
  vblankHeld := by rw [vramWrite_eq]; exact h.vblankHeld
  cache := (coherent_vramWrite a d h.memories h.cache h.flags).1
  flags := (coherent_vramWrite a d h.memories h.cache h.flags).2
  palettes := by rw [vramWrite_eq]; exact h.palettes
  memories := memoriesCanonical_vramWrite a d h.memories
  prio := by rw [vramWrite_eq]; exact h.prio
  secondBank := secondBankAbsent_vramWrite a d h.secondBank

/-- An OAM write keeps the invariant. -/
theorem inv_oamWrite (o d : Byte) {s : State} (h : Inv s) : Inv (oamWrite o d s) := by
  have hmem := memoriesCanonical_oamWrite o d h.memories
  rw [oamWrite_eq] at hmem ⊢
  exact ⟨h.position, h.vblankHeld, h.cache, h.flags, h.palettes, hmem, h.prio, h.secondBank⟩

/-- Every operation keeps the invariant. -/
theorem Effect.inv {i : Instr} {s t : State} (heff : Effect i s t) (h : Inv s) : Inv t := by
  obtain ⟨hbg, hobp0, hobp1⟩ := h.palettes
  cases heff with
  | byte | frame | ignored =>
    exact ⟨h.position, h.vblankHeld, h.cache, h.flags, h.palettes, h.memories, h.prio, h.secondBank⟩
  | store g _ hpal hvbk =>
    obtain ⟨hgbg, hgobp0, hgobp1⟩ := hpal
    refine ⟨h.position, h.vblankHeld, h.cache, h.flags, ⟨hgbg ▸ hbg, hgobp0 ▸ hobp0, hgobp1 ▸ hobp1⟩,
      h.memories, h.prio, fun hext => ?_⟩
    obtain ⟨hvram1, hs⟩ := h.secondBank hext
    exact ⟨hvram1, (hvbk hext).trans hs⟩
  | restart d =>
    exact ⟨⟨Nat.zero_le _, Nat.le_of_lt_succ (Fin.isLt _)⟩,
      fun hline => absurd hline (Nat.not_le.mpr (by decide : 0 < 144)), h.cache, h.flags, h.palettes, h.memories, h.prio, h.secondBank⟩
  | bgp d => exact ⟨h.position, h.vblankHeld, h.cache, h.flags, ⟨rfl, hobp0, hobp1⟩, h.memories, h.prio, h.secondBank⟩
  | obp0 d => exact ⟨h.position, h.vblankHeld, h.cache, h.flags, ⟨hbg, rfl, hobp1⟩, h.memories, h.prio, h.secondBank⟩
  | obp1 d => exact ⟨h.position, h.vblankHeld, h.cache, h.flags, ⟨hbg, hobp0, rfl⟩, h.memories, h.prio, h.secondBank⟩
  | vram a d => exact inv_vramWrite a d h
  | oam o d => exact inv_oamWrite o d h
  | step n f _ hn =>
    have hs := inv_stepped h hn
    exact ⟨hs.position, hs.vblankHeld, hs.cache, hs.flags, hs.palettes, hs.memories, hs.prio, hs.secondBank⟩

/-- Taking a transaction from the inbox keeps the invariant. -/
theorem inv_setInbox {s : State} (h : Inv s) (ts : List Transaction) : Inv (s.setInbox ts) :=
  ⟨h.position, h.vblankHeld, h.cache, h.flags, h.palettes, h.memories, h.prio, h.secondBank⟩

/-- Settles O13: a step is an operation, and each way an operation can end keeps `Inv`. -/
theorem everyStepKeepsTheInvariant : Obligations.EveryStepKeepsTheInvariant := by
  intro s t h hstep
  cases hinbox : s.inbox with
  | nil =>
    rw [step_of_inbox_nil hinbox] at hstep
    exact Host.Outcome.next.inj hstep ▸ h
  | cons x ts =>
    rw [step_of_inbox_cons hinbox] at hstep
    exact (exec_effect hstep).inv (inv_setInbox h ts)

/-! ### The cache and the scratch are unobservable (R35) -/

/-- The state with another tile cache, flags and scratch. -/
def State.setHidden (s : State) (cache : Vector Tile 384) (dirty : Vector Bool 384) (anyDirty : Bool)
    (prio : Vector Nat 160) (done : Vector Bool 160) : State :=
  (s.setTiles cache dirty anyDirty).setScreen s.fb prio done

/-- A state that is visibly the same differs in these fields alone. -/
theorem SameVisible.exists_eq_setHidden {s t : State} (h : SameVisible s t) :
    ∃ cache dirty anyDirty prio done, t = s.setHidden cache dirty anyDirty prio done := by
  obtain ⟨⟨hcfg, hreg, h0, h1, hoam, hbg, hobp0, hobp1⟩, hly, hcounter, hmode, hfb, hinbox, hresults⟩ := h
  refine ⟨t.cache, t.dirty, t.anyDirty, t.prio, t.spriteDone, ?_⟩
  cases t
  simp only at hcfg hreg h0 h1 hoam hbg hobp0 hobp1 hly hcounter hmode hfb hinbox hresults
  subst hcfg hreg h0 h1 hoam hbg hobp0 hobp1 hly hcounter hmode hfb hinbox hresults
  rfl

/-- The same result recorded by both is seen by both. -/
theorem SameVisible.emit {s t : State} (h : SameVisible s t) (r : Result) : SameVisible (s.emit r) (t.emit r) := by
  obtain ⟨hinputs, hly, hcounter, hmode, hfb, hinbox, hresults⟩ := h
  exact ⟨hinputs, hly, hcounter, hmode, hfb, hinbox, congrArg (r :: ·) hresults⟩

section
variable (s : State) (c : Vector Tile 384) (d : Vector Bool 384) (a : Bool) (p : Vector Nat 160) (m : Vector Bool 160)

/-- The hidden fields are hidden. -/
theorem sameVisible_setHidden : SameVisible s (s.setHidden c d a p m) :=
  ⟨⟨rfl, rfl, rfl, rfl, rfl, rfl, rfl, rfl⟩, rfl, rfl, rfl, rfl, rfl, rfl⟩

/-- A VRAM write reads no hidden field, and writes the flags alone of them. -/
theorem vramWrite_setHidden (x : Addr) (v : Byte) : ∃ d' a',
    vramWrite x v (s.setHidden c d a p m) = (vramWrite x v s).setHidden c d' a' p m := by
  rw [vramWrite_fields, vramWrite_fields]
  by_cases hin : inVramWindow x = true
  · rw [if_pos hin, if_pos hin]
    exact ⟨_, _, rfl⟩
  · rw [if_neg hin, if_neg hin]
    exact ⟨_, _, rfl⟩

/-- No access reads a hidden field, and none writes one but the flags. -/
theorem exec_setHidden {i : Instr} (hi : i.isStep = false) : ∃ d' a',
    exec i (s.setHidden c d a p m) = mapNext (fun u => u.setHidden c d' a' p m) (exec i s) := by
  cases i <;> cases hi
  case vramWr x v =>
    obtain ⟨d', a', h⟩ := vramWrite_setHidden s c d a p m x v
    exact ⟨d', a', congrArg Host.Outcome.next h⟩
  case wrLcdc | rdVbk | wrVbk =>
    refine ⟨d, a, ?_⟩
    simp only [exec, execWrLcdc, execRdVbk, execWrVbk, apply_ite (mapNext _)]
    rfl
  case oamWr00To7F | oamWr80To9F =>
    refine ⟨d, a, ?_⟩
    simp only [exec, execOamWr00To7F, execOamWr80To9F, oamWrite]
    split <;> rfl
  all_goals exact ⟨d, a, rfl⟩

end

section
variable {s t : State} (h : SameVisible s t) (hcache : CacheCoherent s) (hflags : FlagsCoherent s)
  (hcache' : CacheCoherent t) (hflags' : FlagsCoherent t)
include h hcache hflags hcache' hflags'

/-- From coherent states that are visibly the same a `Step` draws the same: the described line, or nothing. -/
theorem stepped_fb_eq (n : Nat) : (stepped n t).fb = (stepped n s).fb := by
  obtain ⟨c, d, a, p, m, rfl⟩ := h.exists_eq_setHidden
  refine Vector.ext fun y hy => ?_
  by_cases hrow : y = lyAfter n s
  · by_cases hdraw : enters .hBlank n s = true ∧ s.reg.lcdc.getLsbD 7 = true
    · obtain ⟨hent, hon⟩ := hdraw
      refine Vector.ext fun x hx => ?_
      have hs := (stepped_described (line := ⟨y, hy⟩) hcache hflags hon hrow.symm hent ⟨x, hx⟩).1
      have ht := (stepped_described (line := ⟨y, hy⟩) hcache' hflags' hon hrow.symm hent ⟨x, hx⟩).1
      exact ht.trans hs.symm
    · obtain ⟨_, _, _, hs, _⟩ := samePicture_stepped hdraw
      obtain ⟨_, _, _, ht, _⟩ := samePicture_stepped (s := s.setHidden c d a p m) hdraw
      rw [hs, ht]
      rfl
  · have hs := stepped_other_row n s ⟨y, hy⟩ hrow
    have ht := stepped_other_row n (s.setHidden c d a p m) ⟨y, hy⟩ hrow
    exact ht.trans hs.symm

/-- From such states a `Step` ends in visibly the same states. -/
theorem sameVisible_stepped (n : Nat) : SameVisible (stepped n s) (stepped n t) := by
  have hfb := stepped_fb_eq h hcache hflags hcache' hflags' n
  obtain ⟨c, d, a, p, m, rfl⟩ := h.exists_eq_setHidden
  simp only [SameVisible, SameInputs, stepped_cfg, stepped_reg, stepped_vram0, stepped_vram1, stepped_oam, stepped_palBg,
    stepped_palObp0, stepped_palObp1, stepped_ly, stepped_counter, stepped_mode, stepped_inbox, stepped_results]
  exact ⟨⟨rfl, rfl, rfl, rfl, rfl, rfl, rfl, rfl⟩, rfl, rfl, rfl, hfb, rfl, rfl⟩

/-- From such states an operation ends in visibly the same states. -/
theorem exec_sameVisible {i : Instr} {s' : State} (hs : exec i s = .next s') :
    ∃ t', exec i t = .next t' ∧ SameVisible s' t' := by
  have hstepped := sameVisible_stepped h hcache hflags hcache' hflags'
  obtain ⟨c, d, a, p, m, rfl⟩ := h.exists_eq_setHidden
  cases hi : i.isStep
  case false =>
    obtain ⟨d', a', ht⟩ := exec_setHidden s c d a p m hi
    rw [hs] at ht
    exact ⟨_, ht, sameVisible_setHidden ..⟩
  case true =>
    cases i <;> cases hi
    case stepRefused => cases hs
    case step n f =>
      by_cases hn : n ≤ 456
      · obtain rfl := Host.Outcome.next.inj ((exec_step_ok n f s hn).symm.trans hs)
        exact ⟨_, exec_step_ok n f _ hn, (hstepped n).emit _⟩
      · cases (stepBlock_refused n f s (Nat.lt_of_not_le hn)).symm.trans hs

end

/-- Settles O60: `exec_sameVisible` gives the other next state, and both operations keep their caches coherent. -/
theorem cacheAndScratchAreUnobservable : Obligations.CacheAndScratchAreUnobservable := by
  intro i s t s' h hcache hflags hcache' hflags' hmem hs
  obtain ⟨t', ht, hvisible⟩ := exec_sameVisible h hcache hflags hcache' hflags' hs
  have hmem' : MemoriesCanonical t := by
    obtain ⟨c, d, a, p, m, rfl⟩ := h.exists_eq_setHidden
    exact hmem
  obtain ⟨hc, hf⟩ := (exec_effect hs).coherent hmem hcache hflags
  obtain ⟨hc', hf'⟩ := (exec_effect ht).coherent hmem' hcache' hflags'
  exact ⟨t', ht, hvisible, hc, hf, hc', hf'⟩

end Sys2Proof.Machine
end
